-- ==== Sys2Proof/Word.lean ====
section
/-! DEFINITION. The two word types of the hardware (00_scope.md R10, R12): bytes and 16-bit words. Arithmetic on
them wraps modulo 256 and 65536, as `BitVec` arithmetic does. -/

namespace Sys2Proof

/-- A u8 (R12). -/
abbrev Byte := BitVec 8

/-- A u16 (R12). -/
abbrev Word := BitVec 16

end Sys2Proof
end

