-- ==== Sys2Proof/Machine/Bits.lean ====
section
/-! DEFINITION. The bit-field, sign-extension and byte-order helpers of 00_scope.md R12. -/

namespace Sys2Proof

/-- `hi8(w) = w[15:8]` (R12). -/
def hi8 (w : Word) : Byte := w.extractLsb' 8 8

/-- `lo8(w) = w[7:0]` (R12). -/
def lo8 (w : Word) : Byte := w.extractLsb' 0 8

/-- `hi : lo`, the u16 `hi * 256 + lo` (R12). -/
def join (hi lo : Byte) : Word := hi ++ lo

/-- `zext_16(b)`: zeros in bits 15..8 (R12). -/
def zext16 (b : Byte) : Word := b.setWidth 16

/-- `sext_16(b)`: bit 7 copied into bits 15..8 (R12). -/
def sext16 (b : Byte) : Word := b.signExtend 16

/-- `v[i]` of a u8 (R12). -/
def bitOf (v : Byte) (i : Nat) : Bool := v.getLsbD i

/-- A Boolean as the u8 0 or 1. -/
def bitByte (c : Bool) : Byte := BitVec.ofNat 8 c.toNat

end Sys2Proof
end

