-- ==== Sys2Proof/Config.lean ====
section
/-! DEFINITION. What an implementation fixes (the named parameters of 00_scope.md R11, as one plain record) and the
one free value, the PIXEL draw. -/

namespace Sys2Proof

/-- The two opcode spaces (30_encoding.md R80, 00_scope.md R19). -/
inductive Space where
  | primary
  | secondary
  deriving DecidableEq, Repr

/-- `T_PER_UNIT` of R11, one of 1 and 4: the clock periods of one cycle-unit (30_encoding.md R101). -/
inductive TPerUnit where
  | one
  | four
  deriving DecidableEq, Repr

/-- The number `T_PER_UNIT` stands for. -/
def TPerUnit.periods : TPerUnit → Nat
  | .one => 1
  | .four => 4

/-- `ROT_A_Z` of R11: how the accumulator rotates set Z (44_rotate.md R194). -/
inductive RotAZ where
  | fromResult
  | cleared
  deriving DecidableEq, Repr

/-- The named parameters of 00_scope.md R11 that are not initial RAM contents (those are the arguments of
`State.powerOn`) and not the PIXEL draw (`Config.pixel`). They are fixed for a machine: no step writes them
(10_state.md R35). DESIGN CHOICE (log 1): the record is carried in the state, because `exec` and `step` have no other
argument, so that every statement about all states is a statement about all parameter values. -/
structure Params where
  /-- `T_PER_UNIT`. -/
  tPerUnit : TPerUnit
  /-- `ROT_A_Z`. -/
  rotAZ : RotAZ
  /-- `MAPPED`, as the list of the pairs for which it is false (30_encoding.md R96). -/
  unmapped : List (Space × Byte)
  /-- `BOOT_ROM[0..255]` (10_state.md R31), as (offset, byte) cells in the canonical form of `Memory`. -/
  bootRom : List Host.Cell
  /-- `FB_WIDTH`. -/
  fbWidth : Nat
  /-- `FB_HEIGHT`. -/
  fbHeight : Nat
  deriving DecidableEq, Repr

/-- The defaults of R11. `BOOT_ROM` has no default there; DESIGN CHOICE (log 3): nothing listed, so it reads 0x00. -/
def Params.standard : Params where
  tPerUnit := .four
  rotAZ := .fromResult
  unmapped := []
  bootRom := []
  fbWidth := 160
  fbHeight := 144

/-- `MAPPED(space, byte)` (R11, R96). -/
def Params.mapped (p : Params) (sp : Space) (b : Byte) : Bool := decide ((sp, b) ∉ p.unmapped)

/-- The PIXEL draw of R11 (60_exceptions.md R284): the 32-bit value that pixel `i` takes in draw `k`. A free value:
it has no body, so no statement can depend on a pixel's value (log 5). The first argument is the draw, the second the
pixel's row-major index. -/
opaque Config.pixel : Nat → Nat → BitVec 32

end Sys2Proof
end

