-- ==== Sys2Proof/Machine/State.lean ====
section
/-! DEFINITION. The state of the machine (10_state.md), as plain data, the reasons a step can stop, and the state at
power-on. -/

namespace Sys2Proof.Machine

/-- Backing storage: (address, byte) cells, addresses strictly rising, no cell equal to what an unlisted address reads
as (`Memory.unlisted`, in Machine/Memory.lean). -/
abbrev Memory := List Host.Cell

/-- The execution state, `EXEC` (10_state.md R26). -/
inductive ExecState where
  | running
  | halted
  deriving DecidableEq, Repr

/-- `VMODE` (10_state.md R34). -/
inductive VideoMode where
  | oamScan
  | drawing
  | hblank
  | vblank
  deriving DecidableEq, Repr

/-- The video timing state (10_state.md R34): `VMODE`, `LINE` and `VACC`, the last in clock periods. -/
structure Video where
  mode : VideoMode
  line : Nat
  acc : Nat
  deriving DecidableEq, Repr

/-- The framebuffer `FB` (10_state.md R34, 60_exceptions.md R284), held as the number of the PIXEL draw its pixels
come from: pixel `i` is the free value `Config.pixel draw i` (log 5). -/
structure Framebuffer where
  draw : Nat
  deriving DecidableEq, Repr

/-- The recorded value of a decode failure (60_exceptions.md R270): the space, the offending byte, the full register
state with PC after the offending byte, EXEC, and the latch value the decode consumed. -/
structure FaultInfo where
  space : Space
  byte : Byte
  a : Byte
  f : Byte
  b : Byte
  c : Byte
  d : Byte
  e : Byte
  h : Byte
  l : Byte
  sp : Word
  pc : Word
  execState : ExecState
  latch : Bool
  deriving DecidableEq, Repr

/-- Why the machine stops. -/
inductive Fault where
  /-- Raised by `step` in a state whose `FAULT` is set: no step is taken there (10_state.md R29, 60_exceptions.md
  R270). Safe: it stops where the hardware has stopped. -/
  | decodeFailure (info : FaultInfo)
  deriving DecidableEq, Repr

/-- Why the model has no answer. -/
inductive Refusal where
  /-- Raised by `exec` for an instruction without a meaning; no arm uses it now. Safe. -/
  | notModelled (mnemonic : String)
  deriving DecidableEq, Repr

/-- Everything the spec gives the machine (10_state.md R20–R34), the parameters it was built with (00_scope.md R11)
and the count the last step returned. -/
structure State where
  /-- Accumulator (R20). -/
  a : Byte
  /-- Flag register: Z bit 7, N bit 6, H bit 5, C bit 4, low nibble 0 (R22, R23). -/
  f : Byte
  b : Byte
  c : Byte
  d : Byte
  e : Byte
  h : Byte
  l : Byte
  /-- Stack pointer (R20). -/
  sp : Word
  /-- Program counter (R20). -/
  pc : Word
  /-- `EXEC` (R26). -/
  execState : ExecState
  /-- `IME` (R27), read by nothing. -/
  ime : Bool
  /-- `CB_LATCH` (R28). -/
  cbLatch : Bool
  /-- `FAULT` (R29). -/
  fault : Option FaultInfo
  /-- `OVERLAY_MAPPED` (R30). -/
  overlayMapped : Bool
  /-- `VRAM`, `WRAM` and `HRAM` (R32, R33): each byte under the first address that reaches it. -/
  mem : Memory
  /-- `VMODE`, `LINE` and `VACC` (R34). -/
  video : Video
  /-- `FB` (R34). -/
  fb : Framebuffer
  /-- The count, in cycle-units, that the last engine step returned (40_engine.md R116); none where no step has
  returned one (log 6). -/
  units : Option Nat
  /-- The parameters (00_scope.md R11), which no step writes (R35). -/
  params : Params
  deriving DecidableEq, Repr

/-- Power-on (10_state.md R39, 70_reset_and_hazards.md R300), for every choice of the parameters and of the initial
RAM contents `INIT_VRAM`, `INIT_WRAM`, `INIT_HRAM`. -/
def State.powerOn (params : Params) (ram : Memory) : State where
  a := 0x00#8
  f := 0x00#8
  b := 0x00#8
  c := 0x00#8
  d := 0x00#8
  e := 0x00#8
  h := 0x00#8
  l := 0x00#8
  sp := 0xFFFE#16
  pc := 0x0000#16
  execState := .running
  ime := false
  cbLatch := false
  fault := none
  overlayMapped := true
  mem := ram
  video := { mode := .oamScan, line := 0, acc := 0 }
  fb := { draw := 0 }
  units := none
  params := params

/-- The machine right after reset: power-on with the default parameters and nothing listed in RAM (log 3, log 4). -/
def State.reset : State := State.powerOn Params.standard []

end Sys2Proof.Machine
end

