-- ==== Sys2Proof/Machine/Memory.lean ====
section
/-! DEFINITION. Reading and writing the backing storage: lists of (address, byte) cells in one canonical form. -/

namespace Sys2Proof.Machine

/-- What an address that is not listed reads as. DESIGN CHOICE (log 3, log 4): the spec gives no contents for RAM that
nothing has written (70_reset_and_hazards.md R303) and no bytes for the boot overlay. -/
def Memory.unlisted : Byte := 0x00#8

/-- The byte at key `k`. -/
def Memory.read : Memory → Nat → Byte
  | [], _ => Memory.unlisted
  | (j, v) :: m, k => if j = k then v else Memory.read m k

/-- Store `v` at key `k`, keeping the keys rising and listing no byte equal to `Memory.unlisted`. -/
def Memory.write : Memory → Nat → Byte → Memory
  | [], k, v => if v = Memory.unlisted then [] else [(k, v)]
  | (j, w) :: m, k, v =>
    if k < j then
      if v = Memory.unlisted then (j, w) :: m else (k, v) :: (j, w) :: m
    else if k = j then
      if v = Memory.unlisted then m else (k, v) :: m
    else (j, w) :: Memory.write m k v

/-- Store a list of bytes at keys `k`, `k + 1`, and so on. -/
def Memory.writeAll (m : Memory) (k : Nat) : List Byte → Memory
  | [] => m
  | v :: vs => Memory.writeAll (Memory.write m k v) (k + 1) vs

/-- The canonical form: keys strictly rising, and no cell that holds what an unlisted address reads as. -/
abbrev Memory.wf (m : Memory) : Prop :=
  m.Pairwise (fun x y => x.1 < y.1) ∧ ∀ c ∈ m, c.2 ≠ Memory.unlisted

end Sys2Proof.Machine
end

