-- ==== Sys2Proof/Machine/Ops.lean ====
section
/-! DEFINITION. The named operations every instruction is built from: the memory interconnect (20_memory.md), the
register pairs, the fetch primitives, the stack, the end of a step, and the one exception of the hardware. -/

namespace Sys2Proof.Machine

/-! ## Routing (20_memory.md R51, R52) -/

/-- What an address resolves to (R51). -/
inductive Region where
  | overlay
  | vram
  | wram
  | echo
  | hram
  | unbacked
  deriving DecidableEq, Repr

/-- The region of an address, for a value of `OVERLAY_MAPPED`, the only state routing depends on (R51, R52). -/
def regionOf (overlayMapped : Bool) (a : Word) : Region :=
  if a ≤ 0x00FF#16 then (if overlayMapped then .overlay else .unbacked)
  else if 0x8000#16 ≤ a ∧ a ≤ 0x9FFF#16 then .vram
  else if 0xC000#16 ≤ a ∧ a ≤ 0xDFFF#16 then .wram
  else if 0xE000#16 ≤ a ∧ a ≤ 0xFDFF#16 then .echo
  else if 0xFF80#16 ≤ a ∧ a ≤ 0xFFFE#16 then .hram
  else .unbacked

/-- The backing cell an address reads and writes, if it has one. A cell is named by the first address that reaches it,
so an echo address has the cell 0x2000 lower (R52). No overlay or unbacked address has a cell, so the answer does not
depend on `OVERLAY_MAPPED`. -/
def storageCell (a : Word) : Option Nat :=
  match regionOf false a with
  | .vram | .wram | .hram => some a.toNat
  | .echo => some (a.toNat - 0x2000)
  | .overlay | .unbacked => none

/-! ## Access primitives (R55, R56, R58, R59) -/

/-- `read_byte(addr)` (R55). -/
def State.readByte (s : State) (a : Word) : Byte :=
  match regionOf s.overlayMapped a with
  | .overlay => Memory.read s.params.bootRom a.toNat
  | .vram | .wram | .hram => Memory.read s.mem a.toNat
  | .echo => Memory.read s.mem (a.toNat - 0x2000)
  | .unbacked => 0x00#8

/-- `write_byte(addr, v)` (R56), with the unmapping of R62: a non-zero byte written to 0xFF50 clears
`OVERLAY_MAPPED`. A byte written to an address without a cell is discarded (R53, R60). -/
def State.writeByte (s : State) (a : Word) (v : Byte) : State :=
  { s with
    overlayMapped := if a = 0xFF50#16 ∧ v ≠ 0x00#8 then false else s.overlayMapped
    mem := match storageCell a with
      | some k => Memory.write s.mem k v
      | none => s.mem }

/-- `read_word(addr)`: low byte at `addr`, high byte at `addr + 1` as a u16 (R58). -/
def State.readWord (s : State) (a : Word) : Word := join (s.readByte (a + 1)) (s.readByte a)

/-- `write_word(addr, v)`: the high byte at `addr + 1`, then the low byte at `addr` (R59). -/
def State.writeWord (s : State) (a : Word) (v : Word) : State :=
  (s.writeByte (a + 1) (hi8 v)).writeByte a (lo8 v)

/-! ## Register pairs (10_state.md R21) and F (R23) -/

/-- Every write to F clears bits 3..0 (R23). -/
def State.writeF (s : State) (v : Byte) : State := { s with f := v &&& 0xF0#8 }

/-- `AF`. -/
def State.af (s : State) : Word := join s.a s.f
/-- `BC`. -/
def State.bc (s : State) : Word := join s.b s.c
/-- `DE`. -/
def State.de (s : State) : Word := join s.d s.e
/-- `HL`. -/
def State.hl (s : State) : Word := join s.h s.l

/-- `AF <- v`, masked (R21, R23). -/
def State.setAf (s : State) (v : Word) : State := { s.writeF (lo8 v) with a := hi8 v }
/-- `BC <- v`. -/
def State.setBc (s : State) (v : Word) : State := { s with b := hi8 v, c := lo8 v }
/-- `DE <- v`. -/
def State.setDe (s : State) (v : Word) : State := { s with d := hi8 v, e := lo8 v }
/-- `HL <- v`. -/
def State.setHl (s : State) (v : Word) : State := { s with h := hi8 v, l := lo8 v }

/-! ## Fetch (40_engine.md R112) -/

/-- `FetchByte()`: the byte at PC. -/
def State.fetchedByte (s : State) : Byte := s.readByte s.pc

/-- What `FetchByte()` leaves: PC one higher, as a u16. -/
def State.afterFetchByte (s : State) : State := { s with pc := s.pc + 1 }

/-- `FetchWord()`: the bytes at PC and PC + 1, low byte first. -/
def State.fetchedWord (s : State) : Word := join s.afterFetchByte.fetchedByte s.fetchedByte

/-- What `FetchWord()` leaves: PC two higher. -/
def State.afterFetchWord (s : State) : State := s.afterFetchByte.afterFetchByte

/-! ## The stack (46_stack.md R218) -/

/-- `Push(v)`: SP two lower, then the word written there. -/
def State.push (s : State) (v : Word) : State := { s with sp := s.sp - 2 }.writeWord (s.sp - 2) v

/-- The word `Pop()` returns. -/
def State.popped (s : State) : Word := s.readWord s.sp

/-- What `Pop()` leaves: SP two higher. -/
def State.afterPop (s : State) : State := { s with sp := s.sp + 2 }

/-! ## The end of a step (40_engine.md R114, R116) -/

/-- The normal outcome of an instruction that costs `costT` clock periods: the count returned is
`costT / T_PER_UNIT` cycle-units (30_encoding.md R101). -/
def State.completes (s : State) (costT : Nat) : Host.Outcome State Fault Refusal :=
  .next { s with units := some (costT / s.params.tPerUnit.periods) }

/-! ## The exception (60_exceptions.md R270) -/

/-- Taking a decode failure, the only exception: `FAULT` records the space, the byte, the register state after the
fetch, EXEC and the latch value the decode consumed; nothing else changes, and the step returns no count (40_engine.md
R115). `s` is the state after the opcode fetch and the latch clear. There is no trap entry beyond this (R275) and no
return from it (R276): the fault is never cleared. -/
def State.takeDecodeFailure (s : State) (sp : Space) (b : Byte) : State :=
  { s with
    fault := some
      { space := sp, byte := b, a := s.a, f := s.f, b := s.b, c := s.c, d := s.d, e := s.e, h := s.h, l := s.l,
        sp := s.sp, pc := s.pc, execState := s.execState, latch := decide (sp = .secondary) }
    units := none }

/-- The numeric cause code of a fault: DecodeFailure is 1 (R270). -/
def Fault.code : Fault → Nat
  | .decodeFailure _ => 1

end Sys2Proof.Machine
end

