-- ==== Sys2Proof/Syntax.lean ====
section
/-! DEFINITION. The instructions: one constructor of `Instr` per row of spec/opcode_table.json (501 rows), and the
operand tables of 30_encoding.md R84–R88 as types. -/

namespace Sys2Proof

/-- The 8-bit operand table `r8[i]` (R84): seven registers and the memory byte at HL. -/
inductive R8 where
  | b | c | d | e | h | l | atHl | a
  deriving DecidableEq, Repr

/-- The pair table `rp[p]` (R85). -/
inductive Rp where
  | bc | de | hl | sp
  deriving DecidableEq, Repr

/-- The pair table `rp2[p]` (R86). -/
inductive Rp2 where
  | bc | de | hl | af
  deriving DecidableEq, Repr

/-- The condition table `cc[i]` (R87). -/
inductive Cc where
  | nz | z | nc | c
  deriving DecidableEq, Repr

/-- The operation table `alu[y]` (R88). -/
inductive AluOp where
  | add | adc | sub | sbc | and | xor | or | cp
  deriving DecidableEq, Repr

/-- The operation table `rot[y]` (R88). -/
inductive RotOp where
  | rlc | rrc | rl | rr | sla | sra | swap | srl
  deriving DecidableEq, Repr

/-- The instructions of both opcode spaces, in the order of spec/opcode_table.json. Immediates: `n` is d8 (or STOP's
ignored byte), `e` is e8, `o` is a8, `v` is d16, `a` is a16 (R83). `At` before an operand stands for parentheses, and
`Hli`/`Hld` for HL+ and HL-. -/
inductive Instr where
  -- primary space (R89–R92)
  /-- 0x00 NOP (R260). -/
  | nop
  /-- 0x01 LD BC,d16 (R151). -/
  | ldBcD16 (v : Word)
  /-- 0x02 LD (BC),A (R136). -/
  | ldAtBcA
  /-- 0x03 INC BC (R164). -/
  | incBc
  /-- 0x04 INC B (R160). -/
  | incB
  /-- 0x05 DEC B (R161). -/
  | decB
  /-- 0x06 LD B,d8 (R134). -/
  | ldBD8 (n : Byte)
  /-- 0x07 RLCA (R190). -/
  | rlca
  /-- 0x08 LD (a16),SP (R152). -/
  | ldAtA16Sp (a : Word)
  /-- 0x09 ADD HL,BC (R178). -/
  | addHlBc
  /-- 0x0A LD A,(BC) (R138). -/
  | ldAAtBc
  /-- 0x0B DEC BC (R165). -/
  | decBc
  /-- 0x0C INC C (R160). -/
  | incC
  /-- 0x0D DEC C (R161). -/
  | decC
  /-- 0x0E LD C,d8 (R134). -/
  | ldCD8 (n : Byte)
  /-- 0x0F RRCA (R191). -/
  | rrca
  /-- 0x10 STOP (R262). -/
  | stop (n : Byte)
  /-- 0x11 LD DE,d16 (R151). -/
  | ldDeD16 (v : Word)
  /-- 0x12 LD (DE),A (R137). -/
  | ldAtDeA
  /-- 0x13 INC DE (R164). -/
  | incDe
  /-- 0x14 INC D (R160). -/
  | incD
  /-- 0x15 DEC D (R161). -/
  | decD
  /-- 0x16 LD D,d8 (R134). -/
  | ldDD8 (n : Byte)
  /-- 0x17 RLA (R192). -/
  | rla
  /-- 0x18 JR e8 (R200). -/
  | jrE8 (e : Byte)
  /-- 0x19 ADD HL,DE (R178). -/
  | addHlDe
  /-- 0x1A LD A,(DE) (R139). -/
  | ldAAtDe
  /-- 0x1B DEC DE (R165). -/
  | decDe
  /-- 0x1C INC E (R160). -/
  | incE
  /-- 0x1D DEC E (R161). -/
  | decE
  /-- 0x1E LD E,d8 (R134). -/
  | ldED8 (n : Byte)
  /-- 0x1F RRA (R193). -/
  | rra
  /-- 0x20 JR NZ,e8 (R201). -/
  | jrNzE8 (e : Byte)
  /-- 0x21 LD HL,d16 (R151). -/
  | ldHlD16 (v : Word)
  /-- 0x22 LD (HL+),A (R140). -/
  | ldAtHliA
  /-- 0x23 INC HL (R164). -/
  | incHl
  /-- 0x24 INC H (R160). -/
  | incH
  /-- 0x25 DEC H (R161). -/
  | decH
  /-- 0x26 LD H,d8 (R134). -/
  | ldHD8 (n : Byte)
  /-- 0x27 DAA (R180). -/
  | daa
  /-- 0x28 JR Z,e8 (R201). -/
  | jrZE8 (e : Byte)
  /-- 0x29 ADD HL,HL (R178). -/
  | addHlHl
  /-- 0x2A LD A,(HL+) (R142). -/
  | ldAAtHli
  /-- 0x2B DEC HL (R165). -/
  | decHl
  /-- 0x2C INC L (R160). -/
  | incL
  /-- 0x2D DEC L (R161). -/
  | decL
  /-- 0x2E LD L,d8 (R134). -/
  | ldLD8 (n : Byte)
  /-- 0x2F CPL (R181). -/
  | cpl
  /-- 0x30 JR NC,e8 (R201). -/
  | jrNcE8 (e : Byte)
  /-- 0x31 LD SP,d16 (R151). -/
  | ldSpD16 (v : Word)
  /-- 0x32 LD (HL-),A (R141). -/
  | ldAtHldA
  /-- 0x33 INC SP (R164). -/
  | incSp
  /-- 0x34 INC (HL) (R162). -/
  | incAtHl
  /-- 0x35 DEC (HL) (R163). -/
  | decAtHl
  /-- 0x36 LD (HL),d8 (R135). -/
  | ldAtHlD8 (n : Byte)
  /-- 0x37 SCF (R182). -/
  | scf
  /-- 0x38 JR C,e8 (R201). -/
  | jrCE8 (e : Byte)
  /-- 0x39 ADD HL,SP (R178). -/
  | addHlSp
  /-- 0x3A LD A,(HL-) (R143). -/
  | ldAAtHld
  /-- 0x3B DEC SP (R165). -/
  | decSp
  /-- 0x3C INC A (R160). -/
  | incA
  /-- 0x3D DEC A (R161). -/
  | decA
  /-- 0x3E LD A,d8 (R134). -/
  | ldAD8 (n : Byte)
  /-- 0x3F CCF (R183). -/
  | ccf
  /-- 0x40 LD B,B (R131). -/
  | ldBB
  /-- 0x41 LD B,C (R131). -/
  | ldBC
  /-- 0x42 LD B,D (R131). -/
  | ldBD
  /-- 0x43 LD B,E (R131). -/
  | ldBE
  /-- 0x44 LD B,H (R131). -/
  | ldBH
  /-- 0x45 LD B,L (R131). -/
  | ldBL
  /-- 0x46 LD B,(HL) (R132). -/
  | ldBAtHl
  /-- 0x47 LD B,A (R131). -/
  | ldBA
  /-- 0x48 LD C,B (R131). -/
  | ldCB
  /-- 0x49 LD C,C (R131). -/
  | ldCC
  /-- 0x4A LD C,D (R131). -/
  | ldCD
  /-- 0x4B LD C,E (R131). -/
  | ldCE
  /-- 0x4C LD C,H (R131). -/
  | ldCH
  /-- 0x4D LD C,L (R131). -/
  | ldCL
  /-- 0x4E LD C,(HL) (R132). -/
  | ldCAtHl
  /-- 0x4F LD C,A (R131). -/
  | ldCA
  /-- 0x50 LD D,B (R131). -/
  | ldDB
  /-- 0x51 LD D,C (R131). -/
  | ldDC
  /-- 0x52 LD D,D (R131). -/
  | ldDD
  /-- 0x53 LD D,E (R131). -/
  | ldDE
  /-- 0x54 LD D,H (R131). -/
  | ldDH
  /-- 0x55 LD D,L (R131). -/
  | ldDL
  /-- 0x56 LD D,(HL) (R132). -/
  | ldDAtHl
  /-- 0x57 LD D,A (R131). -/
  | ldDA
  /-- 0x58 LD E,B (R131). -/
  | ldEB
  /-- 0x59 LD E,C (R131). -/
  | ldEC
  /-- 0x5A LD E,D (R131). -/
  | ldED
  /-- 0x5B LD E,E (R131). -/
  | ldEE
  /-- 0x5C LD E,H (R131). -/
  | ldEH
  /-- 0x5D LD E,L (R131). -/
  | ldEL
  /-- 0x5E LD E,(HL) (R132). -/
  | ldEAtHl
  /-- 0x5F LD E,A (R131). -/
  | ldEA
  /-- 0x60 LD H,B (R131). -/
  | ldHB
  /-- 0x61 LD H,C (R131). -/
  | ldHC
  /-- 0x62 LD H,D (R131). -/
  | ldHD
  /-- 0x63 LD H,E (R131). -/
  | ldHE
  /-- 0x64 LD H,H (R131). -/
  | ldHH
  /-- 0x65 LD H,L (R131). -/
  | ldHL
  /-- 0x66 LD H,(HL) (R132). -/
  | ldHAtHl
  /-- 0x67 LD H,A (R131). -/
  | ldHA
  /-- 0x68 LD L,B (R131). -/
  | ldLB
  /-- 0x69 LD L,C (R131). -/
  | ldLC
  /-- 0x6A LD L,D (R131). -/
  | ldLD
  /-- 0x6B LD L,E (R131). -/
  | ldLE
  /-- 0x6C LD L,H (R131). -/
  | ldLH
  /-- 0x6D LD L,L (R131). -/
  | ldLL
  /-- 0x6E LD L,(HL) (R132). -/
  | ldLAtHl
  /-- 0x6F LD L,A (R131). -/
  | ldLA
  /-- 0x70 LD (HL),B (R133). -/
  | ldAtHlB
  /-- 0x71 LD (HL),C (R133). -/
  | ldAtHlC
  /-- 0x72 LD (HL),D (R133). -/
  | ldAtHlD
  /-- 0x73 LD (HL),E (R133). -/
  | ldAtHlE
  /-- 0x74 LD (HL),H (R133). -/
  | ldAtHlH
  /-- 0x75 LD (HL),L (R133). -/
  | ldAtHlL
  /-- 0x76 HALT (R261). -/
  | halt
  /-- 0x77 LD (HL),A (R133). -/
  | ldAtHlA
  /-- 0x78 LD A,B (R131). -/
  | ldAB
  /-- 0x79 LD A,C (R131). -/
  | ldAC
  /-- 0x7A LD A,D (R131). -/
  | ldAD
  /-- 0x7B LD A,E (R131). -/
  | ldAE
  /-- 0x7C LD A,H (R131). -/
  | ldAH
  /-- 0x7D LD A,L (R131). -/
  | ldAL
  /-- 0x7E LD A,(HL) (R132). -/
  | ldAAtHl
  /-- 0x7F LD A,A (R131). -/
  | ldAA
  /-- 0x80 ADD A,B (R170). -/
  | addAB
  /-- 0x81 ADD A,C (R170). -/
  | addAC
  /-- 0x82 ADD A,D (R170). -/
  | addAD
  /-- 0x83 ADD A,E (R170). -/
  | addAE
  /-- 0x84 ADD A,H (R170). -/
  | addAH
  /-- 0x85 ADD A,L (R170). -/
  | addAL
  /-- 0x86 ADD A,(HL) (R170). -/
  | addAAtHl
  /-- 0x87 ADD A,A (R170). -/
  | addAA
  /-- 0x88 ADC A,B (R171). -/
  | adcAB
  /-- 0x89 ADC A,C (R171). -/
  | adcAC
  /-- 0x8A ADC A,D (R171). -/
  | adcAD
  /-- 0x8B ADC A,E (R171). -/
  | adcAE
  /-- 0x8C ADC A,H (R171). -/
  | adcAH
  /-- 0x8D ADC A,L (R171). -/
  | adcAL
  /-- 0x8E ADC A,(HL) (R171). -/
  | adcAAtHl
  /-- 0x8F ADC A,A (R171). -/
  | adcAA
  /-- 0x90 SUB A,B (R172). -/
  | subAB
  /-- 0x91 SUB A,C (R172). -/
  | subAC
  /-- 0x92 SUB A,D (R172). -/
  | subAD
  /-- 0x93 SUB A,E (R172). -/
  | subAE
  /-- 0x94 SUB A,H (R172). -/
  | subAH
  /-- 0x95 SUB A,L (R172). -/
  | subAL
  /-- 0x96 SUB A,(HL) (R172). -/
  | subAAtHl
  /-- 0x97 SUB A,A (R172). -/
  | subAA
  /-- 0x98 SBC A,B (R173). -/
  | sbcAB
  /-- 0x99 SBC A,C (R173). -/
  | sbcAC
  /-- 0x9A SBC A,D (R173). -/
  | sbcAD
  /-- 0x9B SBC A,E (R173). -/
  | sbcAE
  /-- 0x9C SBC A,H (R173). -/
  | sbcAH
  /-- 0x9D SBC A,L (R173). -/
  | sbcAL
  /-- 0x9E SBC A,(HL) (R173). -/
  | sbcAAtHl
  /-- 0x9F SBC A,A (R173). -/
  | sbcAA
  /-- 0xA0 AND A,B (R174). -/
  | andAB
  /-- 0xA1 AND A,C (R174). -/
  | andAC
  /-- 0xA2 AND A,D (R174). -/
  | andAD
  /-- 0xA3 AND A,E (R174). -/
  | andAE
  /-- 0xA4 AND A,H (R174). -/
  | andAH
  /-- 0xA5 AND A,L (R174). -/
  | andAL
  /-- 0xA6 AND A,(HL) (R174). -/
  | andAAtHl
  /-- 0xA7 AND A,A (R174). -/
  | andAA
  /-- 0xA8 XOR A,B (R175). -/
  | xorAB
  /-- 0xA9 XOR A,C (R175). -/
  | xorAC
  /-- 0xAA XOR A,D (R175). -/
  | xorAD
  /-- 0xAB XOR A,E (R175). -/
  | xorAE
  /-- 0xAC XOR A,H (R175). -/
  | xorAH
  /-- 0xAD XOR A,L (R175). -/
  | xorAL
  /-- 0xAE XOR A,(HL) (R175). -/
  | xorAAtHl
  /-- 0xAF XOR A,A (R175). -/
  | xorAA
  /-- 0xB0 OR A,B (R176). -/
  | orAB
  /-- 0xB1 OR A,C (R176). -/
  | orAC
  /-- 0xB2 OR A,D (R176). -/
  | orAD
  /-- 0xB3 OR A,E (R176). -/
  | orAE
  /-- 0xB4 OR A,H (R176). -/
  | orAH
  /-- 0xB5 OR A,L (R176). -/
  | orAL
  /-- 0xB6 OR A,(HL) (R176). -/
  | orAAtHl
  /-- 0xB7 OR A,A (R176). -/
  | orAA
  /-- 0xB8 CP A,B (R177). -/
  | cpAB
  /-- 0xB9 CP A,C (R177). -/
  | cpAC
  /-- 0xBA CP A,D (R177). -/
  | cpAD
  /-- 0xBB CP A,E (R177). -/
  | cpAE
  /-- 0xBC CP A,H (R177). -/
  | cpAH
  /-- 0xBD CP A,L (R177). -/
  | cpAL
  /-- 0xBE CP A,(HL) (R177). -/
  | cpAAtHl
  /-- 0xBF CP A,A (R177). -/
  | cpAA
  /-- 0xC0 RET NZ (R213). -/
  | retNz
  /-- 0xC1 POP BC (R217). -/
  | popBc
  /-- 0xC2 JP NZ,a16 (R204). -/
  | jpNzA16 (a : Word)
  /-- 0xC3 JP a16 (R202). -/
  | jpA16 (a : Word)
  /-- 0xC4 CALL NZ,a16 (R211). -/
  | callNzA16 (a : Word)
  /-- 0xC5 PUSH BC (R216). -/
  | pushBc
  /-- 0xC6 ADD A,d8 (R170). -/
  | addAD8 (n : Byte)
  /-- 0xC7 RST 0x00 (R215). -/
  | rst00
  /-- 0xC8 RET Z (R213). -/
  | retZ
  /-- 0xC9 RET (R212). -/
  | ret
  /-- 0xCA JP Z,a16 (R204). -/
  | jpZA16 (a : Word)
  /-- 0xCB PREFIX CB (R240). -/
  | prefixCb
  /-- 0xCC CALL Z,a16 (R211). -/
  | callZA16 (a : Word)
  /-- 0xCD CALL a16 (R210). -/
  | callA16 (a : Word)
  /-- 0xCE ADC A,d8 (R171). -/
  | adcAD8 (n : Byte)
  /-- 0xCF RST 0x08 (R215). -/
  | rst08
  /-- 0xD0 RET NC (R213). -/
  | retNc
  /-- 0xD1 POP DE (R217). -/
  | popDe
  /-- 0xD2 JP NC,a16 (R204). -/
  | jpNcA16 (a : Word)
  /-- 0xD4 CALL NC,a16 (R211). -/
  | callNcA16 (a : Word)
  /-- 0xD5 PUSH DE (R216). -/
  | pushDe
  /-- 0xD6 SUB A,d8 (R172). -/
  | subAD8 (n : Byte)
  /-- 0xD7 RST 0x10 (R215). -/
  | rst10
  /-- 0xD8 RET C (R213). -/
  | retC
  /-- 0xD9 RETI (R214). -/
  | reti
  /-- 0xDA JP C,a16 (R204). -/
  | jpCA16 (a : Word)
  /-- 0xDC CALL C,a16 (R211). -/
  | callCA16 (a : Word)
  /-- 0xDE SBC A,d8 (R173). -/
  | sbcAD8 (n : Byte)
  /-- 0xDF RST 0x18 (R215). -/
  | rst18
  /-- 0xE0 LDH (a8),A (R230). -/
  | ldhAtA8A (o : Byte)
  /-- 0xE1 POP HL (R217). -/
  | popHl
  /-- 0xE2 LD (C),A (R232). -/
  | ldAtCA
  /-- 0xE5 PUSH HL (R216). -/
  | pushHl
  /-- 0xE6 AND A,d8 (R174). -/
  | andAD8 (n : Byte)
  /-- 0xE7 RST 0x20 (R215). -/
  | rst20
  /-- 0xE8 ADD SP,e8 (R179). -/
  | addSpE8 (e : Byte)
  /-- 0xE9 JP HL (R203). -/
  | jpHl
  /-- 0xEA LD (a16),A (R144). -/
  | ldAtA16A (a : Word)
  /-- 0xEE XOR A,d8 (R175). -/
  | xorAD8 (n : Byte)
  /-- 0xEF RST 0x28 (R215). -/
  | rst28
  /-- 0xF0 LDH A,(a8) (R231). -/
  | ldhAAtA8 (o : Byte)
  /-- 0xF1 POP AF (R217). -/
  | popAf
  /-- 0xF2 LD A,(C) (R233). -/
  | ldAAtC
  /-- 0xF3 DI (R264). -/
  | di
  /-- 0xF5 PUSH AF (R216). -/
  | pushAf
  /-- 0xF6 OR A,d8 (R176). -/
  | orAD8 (n : Byte)
  /-- 0xF7 RST 0x30 (R215). -/
  | rst30
  /-- 0xF8 LD HL,SP+e8 (R150). -/
  | ldHlSpE8 (e : Byte)
  /-- 0xF9 LD SP,HL (R153). -/
  | ldSpHl
  /-- 0xFA LD A,(a16) (R145). -/
  | ldAAtA16 (a : Word)
  /-- 0xFB EI (R265). -/
  | ei
  /-- 0xFE CP A,d8 (R177). -/
  | cpAD8 (n : Byte)
  /-- 0xFF RST 0x38 (R215). -/
  | rst38
  -- secondary space (R93)
  /-- 0x00 RLC B (R241). -/
  | rlcB
  /-- 0x01 RLC C (R241). -/
  | rlcC
  /-- 0x02 RLC D (R241). -/
  | rlcD
  /-- 0x03 RLC E (R241). -/
  | rlcE
  /-- 0x04 RLC H (R241). -/
  | rlcH
  /-- 0x05 RLC L (R241). -/
  | rlcL
  /-- 0x06 RLC (HL) (R241). -/
  | rlcAtHl
  /-- 0x07 RLC A (R241). -/
  | rlcA
  /-- 0x08 RRC B (R242). -/
  | rrcB
  /-- 0x09 RRC C (R242). -/
  | rrcC
  /-- 0x0A RRC D (R242). -/
  | rrcD
  /-- 0x0B RRC E (R242). -/
  | rrcE
  /-- 0x0C RRC H (R242). -/
  | rrcH
  /-- 0x0D RRC L (R242). -/
  | rrcL
  /-- 0x0E RRC (HL) (R242). -/
  | rrcAtHl
  /-- 0x0F RRC A (R242). -/
  | rrcA
  /-- 0x10 RL B (R243). -/
  | rlB
  /-- 0x11 RL C (R243). -/
  | rlC
  /-- 0x12 RL D (R243). -/
  | rlD
  /-- 0x13 RL E (R243). -/
  | rlE
  /-- 0x14 RL H (R243). -/
  | rlH
  /-- 0x15 RL L (R243). -/
  | rlL
  /-- 0x16 RL (HL) (R243). -/
  | rlAtHl
  /-- 0x17 RL A (R243). -/
  | rlA
  /-- 0x18 RR B (R244). -/
  | rrB
  /-- 0x19 RR C (R244). -/
  | rrC
  /-- 0x1A RR D (R244). -/
  | rrD
  /-- 0x1B RR E (R244). -/
  | rrE
  /-- 0x1C RR H (R244). -/
  | rrH
  /-- 0x1D RR L (R244). -/
  | rrL
  /-- 0x1E RR (HL) (R244). -/
  | rrAtHl
  /-- 0x1F RR A (R244). -/
  | rrA
  /-- 0x20 SLA B (R245). -/
  | slaB
  /-- 0x21 SLA C (R245). -/
  | slaC
  /-- 0x22 SLA D (R245). -/
  | slaD
  /-- 0x23 SLA E (R245). -/
  | slaE
  /-- 0x24 SLA H (R245). -/
  | slaH
  /-- 0x25 SLA L (R245). -/
  | slaL
  /-- 0x26 SLA (HL) (R245). -/
  | slaAtHl
  /-- 0x27 SLA A (R245). -/
  | slaA
  /-- 0x28 SRA B (R246). -/
  | sraB
  /-- 0x29 SRA C (R246). -/
  | sraC
  /-- 0x2A SRA D (R246). -/
  | sraD
  /-- 0x2B SRA E (R246). -/
  | sraE
  /-- 0x2C SRA H (R246). -/
  | sraH
  /-- 0x2D SRA L (R246). -/
  | sraL
  /-- 0x2E SRA (HL) (R246). -/
  | sraAtHl
  /-- 0x2F SRA A (R246). -/
  | sraA
  /-- 0x30 SWAP B (R247). -/
  | swapB
  /-- 0x31 SWAP C (R247). -/
  | swapC
  /-- 0x32 SWAP D (R247). -/
  | swapD
  /-- 0x33 SWAP E (R247). -/
  | swapE
  /-- 0x34 SWAP H (R247). -/
  | swapH
  /-- 0x35 SWAP L (R247). -/
  | swapL
  /-- 0x36 SWAP (HL) (R247). -/
  | swapAtHl
  /-- 0x37 SWAP A (R247). -/
  | swapA
  /-- 0x38 SRL B (R248). -/
  | srlB
  /-- 0x39 SRL C (R248). -/
  | srlC
  /-- 0x3A SRL D (R248). -/
  | srlD
  /-- 0x3B SRL E (R248). -/
  | srlE
  /-- 0x3C SRL H (R248). -/
  | srlH
  /-- 0x3D SRL L (R248). -/
  | srlL
  /-- 0x3E SRL (HL) (R248). -/
  | srlAtHl
  /-- 0x3F SRL A (R248). -/
  | srlA
  /-- 0x40 BIT 0,B (R249). -/
  | bit0B
  /-- 0x41 BIT 0,C (R249). -/
  | bit0C
  /-- 0x42 BIT 0,D (R249). -/
  | bit0D
  /-- 0x43 BIT 0,E (R249). -/
  | bit0E
  /-- 0x44 BIT 0,H (R249). -/
  | bit0H
  /-- 0x45 BIT 0,L (R249). -/
  | bit0L
  /-- 0x46 BIT 0,(HL) (R249). -/
  | bit0AtHl
  /-- 0x47 BIT 0,A (R249). -/
  | bit0A
  /-- 0x48 BIT 1,B (R249). -/
  | bit1B
  /-- 0x49 BIT 1,C (R249). -/
  | bit1C
  /-- 0x4A BIT 1,D (R249). -/
  | bit1D
  /-- 0x4B BIT 1,E (R249). -/
  | bit1E
  /-- 0x4C BIT 1,H (R249). -/
  | bit1H
  /-- 0x4D BIT 1,L (R249). -/
  | bit1L
  /-- 0x4E BIT 1,(HL) (R249). -/
  | bit1AtHl
  /-- 0x4F BIT 1,A (R249). -/
  | bit1A
  /-- 0x50 BIT 2,B (R249). -/
  | bit2B
  /-- 0x51 BIT 2,C (R249). -/
  | bit2C
  /-- 0x52 BIT 2,D (R249). -/
  | bit2D
  /-- 0x53 BIT 2,E (R249). -/
  | bit2E
  /-- 0x54 BIT 2,H (R249). -/
  | bit2H
  /-- 0x55 BIT 2,L (R249). -/
  | bit2L
  /-- 0x56 BIT 2,(HL) (R249). -/
  | bit2AtHl
  /-- 0x57 BIT 2,A (R249). -/
  | bit2A
  /-- 0x58 BIT 3,B (R249). -/
  | bit3B
  /-- 0x59 BIT 3,C (R249). -/
  | bit3C
  /-- 0x5A BIT 3,D (R249). -/
  | bit3D
  /-- 0x5B BIT 3,E (R249). -/
  | bit3E
  /-- 0x5C BIT 3,H (R249). -/
  | bit3H
  /-- 0x5D BIT 3,L (R249). -/
  | bit3L
  /-- 0x5E BIT 3,(HL) (R249). -/
  | bit3AtHl
  /-- 0x5F BIT 3,A (R249). -/
  | bit3A
  /-- 0x60 BIT 4,B (R249). -/
  | bit4B
  /-- 0x61 BIT 4,C (R249). -/
  | bit4C
  /-- 0x62 BIT 4,D (R249). -/
  | bit4D
  /-- 0x63 BIT 4,E (R249). -/
  | bit4E
  /-- 0x64 BIT 4,H (R249). -/
  | bit4H
  /-- 0x65 BIT 4,L (R249). -/
  | bit4L
  /-- 0x66 BIT 4,(HL) (R249). -/
  | bit4AtHl
  /-- 0x67 BIT 4,A (R249). -/
  | bit4A
  /-- 0x68 BIT 5,B (R249). -/
  | bit5B
  /-- 0x69 BIT 5,C (R249). -/
  | bit5C
  /-- 0x6A BIT 5,D (R249). -/
  | bit5D
  /-- 0x6B BIT 5,E (R249). -/
  | bit5E
  /-- 0x6C BIT 5,H (R249). -/
  | bit5H
  /-- 0x6D BIT 5,L (R249). -/
  | bit5L
  /-- 0x6E BIT 5,(HL) (R249). -/
  | bit5AtHl
  /-- 0x6F BIT 5,A (R249). -/
  | bit5A
  /-- 0x70 BIT 6,B (R249). -/
  | bit6B
  /-- 0x71 BIT 6,C (R249). -/
  | bit6C
  /-- 0x72 BIT 6,D (R249). -/
  | bit6D
  /-- 0x73 BIT 6,E (R249). -/
  | bit6E
  /-- 0x74 BIT 6,H (R249). -/
  | bit6H
  /-- 0x75 BIT 6,L (R249). -/
  | bit6L
  /-- 0x76 BIT 6,(HL) (R249). -/
  | bit6AtHl
  /-- 0x77 BIT 6,A (R249). -/
  | bit6A
  /-- 0x78 BIT 7,B (R249). -/
  | bit7B
  /-- 0x79 BIT 7,C (R249). -/
  | bit7C
  /-- 0x7A BIT 7,D (R249). -/
  | bit7D
  /-- 0x7B BIT 7,E (R249). -/
  | bit7E
  /-- 0x7C BIT 7,H (R249). -/
  | bit7H
  /-- 0x7D BIT 7,L (R249). -/
  | bit7L
  /-- 0x7E BIT 7,(HL) (R249). -/
  | bit7AtHl
  /-- 0x7F BIT 7,A (R249). -/
  | bit7A
  /-- 0x80 RES 0,B (R250). -/
  | res0B
  /-- 0x81 RES 0,C (R250). -/
  | res0C
  /-- 0x82 RES 0,D (R250). -/
  | res0D
  /-- 0x83 RES 0,E (R250). -/
  | res0E
  /-- 0x84 RES 0,H (R250). -/
  | res0H
  /-- 0x85 RES 0,L (R250). -/
  | res0L
  /-- 0x86 RES 0,(HL) (R250). -/
  | res0AtHl
  /-- 0x87 RES 0,A (R250). -/
  | res0A
  /-- 0x88 RES 1,B (R250). -/
  | res1B
  /-- 0x89 RES 1,C (R250). -/
  | res1C
  /-- 0x8A RES 1,D (R250). -/
  | res1D
  /-- 0x8B RES 1,E (R250). -/
  | res1E
  /-- 0x8C RES 1,H (R250). -/
  | res1H
  /-- 0x8D RES 1,L (R250). -/
  | res1L
  /-- 0x8E RES 1,(HL) (R250). -/
  | res1AtHl
  /-- 0x8F RES 1,A (R250). -/
  | res1A
  /-- 0x90 RES 2,B (R250). -/
  | res2B
  /-- 0x91 RES 2,C (R250). -/
  | res2C
  /-- 0x92 RES 2,D (R250). -/
  | res2D
  /-- 0x93 RES 2,E (R250). -/
  | res2E
  /-- 0x94 RES 2,H (R250). -/
  | res2H
  /-- 0x95 RES 2,L (R250). -/
  | res2L
  /-- 0x96 RES 2,(HL) (R250). -/
  | res2AtHl
  /-- 0x97 RES 2,A (R250). -/
  | res2A
  /-- 0x98 RES 3,B (R250). -/
  | res3B
  /-- 0x99 RES 3,C (R250). -/
  | res3C
  /-- 0x9A RES 3,D (R250). -/
  | res3D
  /-- 0x9B RES 3,E (R250). -/
  | res3E
  /-- 0x9C RES 3,H (R250). -/
  | res3H
  /-- 0x9D RES 3,L (R250). -/
  | res3L
  /-- 0x9E RES 3,(HL) (R250). -/
  | res3AtHl
  /-- 0x9F RES 3,A (R250). -/
  | res3A
  /-- 0xA0 RES 4,B (R250). -/
  | res4B
  /-- 0xA1 RES 4,C (R250). -/
  | res4C
  /-- 0xA2 RES 4,D (R250). -/
  | res4D
  /-- 0xA3 RES 4,E (R250). -/
  | res4E
  /-- 0xA4 RES 4,H (R250). -/
  | res4H
  /-- 0xA5 RES 4,L (R250). -/
  | res4L
  /-- 0xA6 RES 4,(HL) (R250). -/
  | res4AtHl
  /-- 0xA7 RES 4,A (R250). -/
  | res4A
  /-- 0xA8 RES 5,B (R250). -/
  | res5B
  /-- 0xA9 RES 5,C (R250). -/
  | res5C
  /-- 0xAA RES 5,D (R250). -/
  | res5D
  /-- 0xAB RES 5,E (R250). -/
  | res5E
  /-- 0xAC RES 5,H (R250). -/
  | res5H
  /-- 0xAD RES 5,L (R250). -/
  | res5L
  /-- 0xAE RES 5,(HL) (R250). -/
  | res5AtHl
  /-- 0xAF RES 5,A (R250). -/
  | res5A
  /-- 0xB0 RES 6,B (R250). -/
  | res6B
  /-- 0xB1 RES 6,C (R250). -/
  | res6C
  /-- 0xB2 RES 6,D (R250). -/
  | res6D
  /-- 0xB3 RES 6,E (R250). -/
  | res6E
  /-- 0xB4 RES 6,H (R250). -/
  | res6H
  /-- 0xB5 RES 6,L (R250). -/
  | res6L
  /-- 0xB6 RES 6,(HL) (R250). -/
  | res6AtHl
  /-- 0xB7 RES 6,A (R250). -/
  | res6A
  /-- 0xB8 RES 7,B (R250). -/
  | res7B
  /-- 0xB9 RES 7,C (R250). -/
  | res7C
  /-- 0xBA RES 7,D (R250). -/
  | res7D
  /-- 0xBB RES 7,E (R250). -/
  | res7E
  /-- 0xBC RES 7,H (R250). -/
  | res7H
  /-- 0xBD RES 7,L (R250). -/
  | res7L
  /-- 0xBE RES 7,(HL) (R250). -/
  | res7AtHl
  /-- 0xBF RES 7,A (R250). -/
  | res7A
  /-- 0xC0 SET 0,B (R251). -/
  | set0B
  /-- 0xC1 SET 0,C (R251). -/
  | set0C
  /-- 0xC2 SET 0,D (R251). -/
  | set0D
  /-- 0xC3 SET 0,E (R251). -/
  | set0E
  /-- 0xC4 SET 0,H (R251). -/
  | set0H
  /-- 0xC5 SET 0,L (R251). -/
  | set0L
  /-- 0xC6 SET 0,(HL) (R251). -/
  | set0AtHl
  /-- 0xC7 SET 0,A (R251). -/
  | set0A
  /-- 0xC8 SET 1,B (R251). -/
  | set1B
  /-- 0xC9 SET 1,C (R251). -/
  | set1C
  /-- 0xCA SET 1,D (R251). -/
  | set1D
  /-- 0xCB SET 1,E (R251). -/
  | set1E
  /-- 0xCC SET 1,H (R251). -/
  | set1H
  /-- 0xCD SET 1,L (R251). -/
  | set1L
  /-- 0xCE SET 1,(HL) (R251). -/
  | set1AtHl
  /-- 0xCF SET 1,A (R251). -/
  | set1A
  /-- 0xD0 SET 2,B (R251). -/
  | set2B
  /-- 0xD1 SET 2,C (R251). -/
  | set2C
  /-- 0xD2 SET 2,D (R251). -/
  | set2D
  /-- 0xD3 SET 2,E (R251). -/
  | set2E
  /-- 0xD4 SET 2,H (R251). -/
  | set2H
  /-- 0xD5 SET 2,L (R251). -/
  | set2L
  /-- 0xD6 SET 2,(HL) (R251). -/
  | set2AtHl
  /-- 0xD7 SET 2,A (R251). -/
  | set2A
  /-- 0xD8 SET 3,B (R251). -/
  | set3B
  /-- 0xD9 SET 3,C (R251). -/
  | set3C
  /-- 0xDA SET 3,D (R251). -/
  | set3D
  /-- 0xDB SET 3,E (R251). -/
  | set3E
  /-- 0xDC SET 3,H (R251). -/
  | set3H
  /-- 0xDD SET 3,L (R251). -/
  | set3L
  /-- 0xDE SET 3,(HL) (R251). -/
  | set3AtHl
  /-- 0xDF SET 3,A (R251). -/
  | set3A
  /-- 0xE0 SET 4,B (R251). -/
  | set4B
  /-- 0xE1 SET 4,C (R251). -/
  | set4C
  /-- 0xE2 SET 4,D (R251). -/
  | set4D
  /-- 0xE3 SET 4,E (R251). -/
  | set4E
  /-- 0xE4 SET 4,H (R251). -/
  | set4H
  /-- 0xE5 SET 4,L (R251). -/
  | set4L
  /-- 0xE6 SET 4,(HL) (R251). -/
  | set4AtHl
  /-- 0xE7 SET 4,A (R251). -/
  | set4A
  /-- 0xE8 SET 5,B (R251). -/
  | set5B
  /-- 0xE9 SET 5,C (R251). -/
  | set5C
  /-- 0xEA SET 5,D (R251). -/
  | set5D
  /-- 0xEB SET 5,E (R251). -/
  | set5E
  /-- 0xEC SET 5,H (R251). -/
  | set5H
  /-- 0xED SET 5,L (R251). -/
  | set5L
  /-- 0xEE SET 5,(HL) (R251). -/
  | set5AtHl
  /-- 0xEF SET 5,A (R251). -/
  | set5A
  /-- 0xF0 SET 6,B (R251). -/
  | set6B
  /-- 0xF1 SET 6,C (R251). -/
  | set6C
  /-- 0xF2 SET 6,D (R251). -/
  | set6D
  /-- 0xF3 SET 6,E (R251). -/
  | set6E
  /-- 0xF4 SET 6,H (R251). -/
  | set6H
  /-- 0xF5 SET 6,L (R251). -/
  | set6L
  /-- 0xF6 SET 6,(HL) (R251). -/
  | set6AtHl
  /-- 0xF7 SET 6,A (R251). -/
  | set6A
  /-- 0xF8 SET 7,B (R251). -/
  | set7B
  /-- 0xF9 SET 7,C (R251). -/
  | set7C
  /-- 0xFA SET 7,D (R251). -/
  | set7D
  /-- 0xFB SET 7,E (R251). -/
  | set7E
  /-- 0xFC SET 7,H (R251). -/
  | set7H
  /-- 0xFD SET 7,L (R251). -/
  | set7L
  /-- 0xFE SET 7,(HL) (R251). -/
  | set7AtHl
  /-- 0xFF SET 7,A (R251). -/
  | set7A
  deriving DecidableEq, Repr

end Sys2Proof
end

