-- ==== Sys2Proof/Machine/Flags.lean ====
section
/-! DEFINITION. The flags of F (10_state.md R22), the carry helpers (00_scope.md R17) and every result-with-flags
computation of the instruction rules. -/

namespace Sys2Proof.Machine

/-! ## The flag bits (10_state.md R22) -/

/-- Z, bit 7 of F. -/
def State.flagZ (s : State) : Bool := bitOf s.f 7
/-- N, bit 6 of F. -/
def State.flagN (s : State) : Bool := bitOf s.f 6
/-- H, bit 5 of F. -/
def State.flagH (s : State) : Bool := bitOf s.f 5
/-- C, bit 4 of F. -/
def State.flagC (s : State) : Bool := bitOf s.f 4

/-- The byte with the four flags at their bits and 0 in bits 3..0 (R22). -/
def packFlags (z n h c : Bool) : Byte :=
  BitVec.ofBool z ++ BitVec.ofBool n ++ BitVec.ofBool h ++ BitVec.ofBool c ++ 0#4

/-- Write the four flags; a flag an instruction leaves alone is passed its old value (R23, R24). -/
def State.setFlags (s : State) (z n h c : Bool) : State := s.writeF (packFlags z n h c)

/-- `cond(i)` (30_encoding.md R87). -/
def State.cond (s : State) : Cc → Bool
  | .nz => !s.flagZ
  | .z => s.flagZ
  | .nc => !s.flagC
  | .c => s.flagC

/-! ## Carry helpers (00_scope.md R17): exact sums, then a comparison -/

/-- `carry4(a, b, c)`. -/
def carry4 (a b : Byte) (c : Bool) : Bool := decide (a.toNat % 16 + b.toNat % 16 + c.toNat > 0xF)
/-- `carry8(a, b, c)`. -/
def carry8 (a b : Byte) (c : Bool) : Bool := decide (a.toNat + b.toNat + c.toNat > 0xFF)
/-- `borrow4(a, b, c)`. -/
def borrow4 (a b : Byte) (c : Bool) : Bool := decide (a.toNat % 16 < b.toNat % 16 + c.toNat)
/-- `borrow8(a, b, c)`. -/
def borrow8 (a b : Byte) (c : Bool) : Bool := decide (a.toNat < b.toNat + c.toNat)
/-- `carry12(a, b)`. -/
def carry12 (a b : Word) : Bool := decide (a.toNat % 4096 + b.toNat % 4096 > 0xFFF)
/-- `carry16(a, b)`. -/
def carry16 (a b : Word) : Bool := decide (a.toNat + b.toNat > 0xFFFF)

/-! ## 8-bit results with flags -/

/-- A value and the four flags that come with it. -/
structure AluResult where
  value : Byte
  z : Bool
  n : Bool
  h : Bool
  c : Bool
  deriving DecidableEq, Repr

/-- The eight ALU operations on A and an operand `v`, with the C flag (43_alu.md R170–R177). The value is what A holds
afterwards: CP leaves A as it was (R177). -/
def alu (op : AluOp) (a v : Byte) (c : Bool) : AluResult :=
  match op with
  | .add => ⟨a + v, a + v == 0, false, carry4 a v false, carry8 a v false⟩
  | .adc => ⟨a + v + bitByte c, a + v + bitByte c == 0, false, carry4 a v c, carry8 a v c⟩
  | .sub => ⟨a - v, a - v == 0, true, borrow4 a v false, borrow8 a v false⟩
  | .sbc => ⟨a - v - bitByte c, a - v - bitByte c == 0, true, borrow4 a v c, borrow8 a v c⟩
  | .and => ⟨a &&& v, a &&& v == 0, false, true, false⟩
  | .xor => ⟨a ^^^ v, a ^^^ v == 0, false, false, false⟩
  | .or => ⟨a ||| v, a ||| v == 0, false, false, false⟩
  | .cp => ⟨a, a - v == 0, true, borrow4 a v false, borrow8 a v false⟩

/-- `INC` on a byte: the value and Z, N, H; C is passed through (42_incdec.md R160). -/
def incByte (v : Byte) (c : Bool) : AluResult := ⟨v + 1, v + 1 == 0, false, v &&& 0x0F#8 == 0x0F#8, c⟩

/-- `DEC` on a byte: the value and Z, N, H; C is passed through (42_incdec.md R161). -/
def decByte (v : Byte) (c : Bool) : AluResult := ⟨v - 1, v - 1 == 0, true, v &&& 0x0F#8 == 0x00#8, c⟩

/-- Rotates and shifts: the result and the evicted bit (48_prefix_cb.md R241–R248, 44_rotate.md R190–R193). -/
def rotate (op : RotOp) (v : Byte) (c : Bool) : Byte × Bool :=
  match op with
  | .rlc => ((v <<< 1) ||| bitByte (bitOf v 7), bitOf v 7)
  | .rrc => ((v >>> 1) ||| (bitByte (bitOf v 0) <<< 7), bitOf v 0)
  | .rl => ((v <<< 1) ||| bitByte c, bitOf v 7)
  | .rr => ((v >>> 1) ||| (bitByte c <<< 7), bitOf v 0)
  | .sla => (v <<< 1, bitOf v 7)
  | .sra => ((v >>> 1) ||| (v &&& 0x80#8), bitOf v 0)
  | .swap => ((v <<< 4) ||| (v >>> 4), false)
  | .srl => (v >>> 1, bitOf v 0)

/-- The adjusted A and the C flag of `DAA` (43_alu.md R180). -/
def decimalAdjust (a : Byte) (n h c : Bool) : Byte × Bool :=
  if n then
    (a - ((if c then 0x60#8 else 0x00#8) ||| (if h then 0x06#8 else 0x00#8)), c)
  else
    (a + ((if c ∨ a > 0x99#8 then 0x60#8 else 0x00#8) ||| (if h ∨ a &&& 0x0F#8 > 0x09#8 then 0x06#8 else 0x00#8)),
      c || decide (a > 0x99#8))

/-- How an accumulator rotate sets Z (44_rotate.md R194). -/
def rotAZero (mode : RotAZ) (r : Byte) : Bool :=
  match mode with
  | .fromResult => r == 0
  | .cleared => false

end Sys2Proof.Machine
end

