-- ==== Sys2Proof/Machine/Operands.lean ====
section
/-! DEFINITION. Every operand form: the 8-bit operand table with `(HL)`, the pair tables, the I/O-page address
(30_encoding.md R83–R86, 47_io_page.md). -/

namespace Sys2Proof.Machine

/-- The value of `r8[i]`; index 6 is the byte at HL (R84). -/
def State.readR8 (s : State) : R8 → Byte
  | .b => s.b
  | .c => s.c
  | .d => s.d
  | .e => s.e
  | .h => s.h
  | .l => s.l
  | .atHl => s.readByte s.hl
  | .a => s.a

/-- `r8[i] <- v`; index 6 writes the byte at HL (R84). -/
def State.writeR8 (s : State) (r : R8) (v : Byte) : State :=
  match r with
  | .b => { s with b := v }
  | .c => { s with c := v }
  | .d => { s with d := v }
  | .e => { s with e := v }
  | .h => { s with h := v }
  | .l => { s with l := v }
  | .atHl => s.writeByte s.hl v
  | .a => { s with a := v }

/-- The value of `rp[p]` (R85). -/
def State.readRp (s : State) : Rp → Word
  | .bc => s.bc
  | .de => s.de
  | .hl => s.hl
  | .sp => s.sp

/-- `rp[p] <- v` (R85). -/
def State.writeRp (s : State) (p : Rp) (v : Word) : State :=
  match p with
  | .bc => s.setBc v
  | .de => s.setDe v
  | .hl => s.setHl v
  | .sp => { s with sp := v }

/-- The value of `rp2[p]` (R86). -/
def State.readRp2 (s : State) : Rp2 → Word
  | .bc => s.bc
  | .de => s.de
  | .hl => s.hl
  | .af => s.af

/-- `rp2[p] <- v`; a write to AF clears the low nibble of F (R86, 10_state.md R23). -/
def State.writeRp2 (s : State) (p : Rp2) (v : Word) : State :=
  match p with
  | .bc => s.setBc v
  | .de => s.setDe v
  | .hl => s.setHl v
  | .af => s.setAf v

/-- The I/O-page address of an offset: `0xFF00 + zext_16(n)` (R83, R230–R233). -/
def ioAddress (n : Byte) : Word := 0xFF00#16 + zext16 n

end Sys2Proof.Machine
end

