-- ==== Sys2Proof/Machine/Alu.lean ====
section
/-! DEFINITION. Arithmetic and logic (43_alu.md R170–R184). -/

namespace Sys2Proof.Machine

/-- `alu[y] A,v` for an operand value `v` (R170–R177). -/
def State.aluWith (s : State) (op : AluOp) (v : Byte) : State :=
  let r := alu op s.a v s.flagC
  { s.setFlags r.z r.n r.h r.c with a := r.value }

/-- The register and memory forms: the operand is `r8[z]` (R184). -/
def State.aluR8 (s : State) (op : AluOp) (z : R8) : State := s.aluWith op (s.readR8 z)

/-- `ADD HL,rp[p]`: N, H (bit 11), C (bit 15); Z unchanged (R178). -/
def State.addHl (s : State) (p : Rp) : State :=
  (s.setHl (s.hl + s.readRp p)).setFlags s.flagZ false (carry12 s.hl (s.readRp p)) (carry16 s.hl (s.readRp p))

/-- `ADD SP,e8`: Z and N cleared, H and C from the unsigned low-byte sum (R179). -/
def State.addSp (s : State) (e : Byte) : State :=
  { s with sp := s.sp + sext16 e }.setFlags false false (carry4 (lo8 s.sp) e false) (carry8 (lo8 s.sp) e false)

/-- `DAA`: Z from the result, N unchanged, H cleared (R180). -/
def State.daa (s : State) : State :=
  let r := decimalAdjust s.a s.flagN s.flagH s.flagC
  { s.setFlags (r.1 == 0) s.flagN false r.2 with a := r.1 }

/-- `CPL`: N and H set, Z and C unchanged (R181). -/
def State.cpl (s : State) : State := { s.setFlags s.flagZ true true s.flagC with a := ~~~s.a }

/-- `SCF`: C set, N and H cleared, Z unchanged (R182). -/
def State.scf (s : State) : State := s.setFlags s.flagZ false false true

/-- `CCF`: C inverted, N and H cleared, Z unchanged (R183). -/
def State.ccf (s : State) : State := s.setFlags s.flagZ false false (!s.flagC)

/-! ## One meaning per instruction -/

/-- `ADD HL,BC` (R178). -/
def execAddHlBc (s : State) : Host.Outcome State Fault Refusal := (s.addHl .bc).completes 8

/-- `ADD HL,DE` (R178). -/
def execAddHlDe (s : State) : Host.Outcome State Fault Refusal := (s.addHl .de).completes 8

/-- `DAA` (R180). -/
def execDaa (s : State) : Host.Outcome State Fault Refusal := s.daa.completes 4

/-- `ADD HL,HL` (R178). -/
def execAddHlHl (s : State) : Host.Outcome State Fault Refusal := (s.addHl .hl).completes 8

/-- `CPL` (R181). -/
def execCpl (s : State) : Host.Outcome State Fault Refusal := s.cpl.completes 4

/-- `SCF` (R182). -/
def execScf (s : State) : Host.Outcome State Fault Refusal := s.scf.completes 4

/-- `ADD HL,SP` (R178). -/
def execAddHlSp (s : State) : Host.Outcome State Fault Refusal := (s.addHl .sp).completes 8

/-- `CCF` (R183). -/
def execCcf (s : State) : Host.Outcome State Fault Refusal := s.ccf.completes 4

/-- `ADD A,B` (R170). -/
def execAddAB (s : State) : Host.Outcome State Fault Refusal := (s.aluR8 .add .b).completes 4

/-- `ADD A,C` (R170). -/
def execAddAC (s : State) : Host.Outcome State Fault Refusal := (s.aluR8 .add .c).completes 4

/-- `ADD A,D` (R170). -/
def execAddAD (s : State) : Host.Outcome State Fault Refusal := (s.aluR8 .add .d).completes 4

/-- `ADD A,E` (R170). -/
def execAddAE (s : State) : Host.Outcome State Fault Refusal := (s.aluR8 .add .e).completes 4

/-- `ADD A,H` (R170). -/
def execAddAH (s : State) : Host.Outcome State Fault Refusal := (s.aluR8 .add .h).completes 4

/-- `ADD A,L` (R170). -/
def execAddAL (s : State) : Host.Outcome State Fault Refusal := (s.aluR8 .add .l).completes 4

/-- `ADD A,(HL)` (R170). -/
def execAddAAtHl (s : State) : Host.Outcome State Fault Refusal := (s.aluR8 .add .atHl).completes 8

/-- `ADD A,A` (R170). -/
def execAddAA (s : State) : Host.Outcome State Fault Refusal := (s.aluR8 .add .a).completes 4

/-- `ADC A,B` (R171). -/
def execAdcAB (s : State) : Host.Outcome State Fault Refusal := (s.aluR8 .adc .b).completes 4

/-- `ADC A,C` (R171). -/
def execAdcAC (s : State) : Host.Outcome State Fault Refusal := (s.aluR8 .adc .c).completes 4

/-- `ADC A,D` (R171). -/
def execAdcAD (s : State) : Host.Outcome State Fault Refusal := (s.aluR8 .adc .d).completes 4

/-- `ADC A,E` (R171). -/
def execAdcAE (s : State) : Host.Outcome State Fault Refusal := (s.aluR8 .adc .e).completes 4

/-- `ADC A,H` (R171). -/
def execAdcAH (s : State) : Host.Outcome State Fault Refusal := (s.aluR8 .adc .h).completes 4

/-- `ADC A,L` (R171). -/
def execAdcAL (s : State) : Host.Outcome State Fault Refusal := (s.aluR8 .adc .l).completes 4

/-- `ADC A,(HL)` (R171). -/
def execAdcAAtHl (s : State) : Host.Outcome State Fault Refusal := (s.aluR8 .adc .atHl).completes 8

/-- `ADC A,A` (R171). -/
def execAdcAA (s : State) : Host.Outcome State Fault Refusal := (s.aluR8 .adc .a).completes 4

/-- `SUB A,B` (R172). -/
def execSubAB (s : State) : Host.Outcome State Fault Refusal := (s.aluR8 .sub .b).completes 4

/-- `SUB A,C` (R172). -/
def execSubAC (s : State) : Host.Outcome State Fault Refusal := (s.aluR8 .sub .c).completes 4

/-- `SUB A,D` (R172). -/
def execSubAD (s : State) : Host.Outcome State Fault Refusal := (s.aluR8 .sub .d).completes 4

/-- `SUB A,E` (R172). -/
def execSubAE (s : State) : Host.Outcome State Fault Refusal := (s.aluR8 .sub .e).completes 4

/-- `SUB A,H` (R172). -/
def execSubAH (s : State) : Host.Outcome State Fault Refusal := (s.aluR8 .sub .h).completes 4

/-- `SUB A,L` (R172). -/
def execSubAL (s : State) : Host.Outcome State Fault Refusal := (s.aluR8 .sub .l).completes 4

/-- `SUB A,(HL)` (R172). -/
def execSubAAtHl (s : State) : Host.Outcome State Fault Refusal := (s.aluR8 .sub .atHl).completes 8

/-- `SUB A,A` (R172). -/
def execSubAA (s : State) : Host.Outcome State Fault Refusal := (s.aluR8 .sub .a).completes 4

/-- `SBC A,B` (R173). -/
def execSbcAB (s : State) : Host.Outcome State Fault Refusal := (s.aluR8 .sbc .b).completes 4

/-- `SBC A,C` (R173). -/
def execSbcAC (s : State) : Host.Outcome State Fault Refusal := (s.aluR8 .sbc .c).completes 4

/-- `SBC A,D` (R173). -/
def execSbcAD (s : State) : Host.Outcome State Fault Refusal := (s.aluR8 .sbc .d).completes 4

/-- `SBC A,E` (R173). -/
def execSbcAE (s : State) : Host.Outcome State Fault Refusal := (s.aluR8 .sbc .e).completes 4

/-- `SBC A,H` (R173). -/
def execSbcAH (s : State) : Host.Outcome State Fault Refusal := (s.aluR8 .sbc .h).completes 4

/-- `SBC A,L` (R173). -/
def execSbcAL (s : State) : Host.Outcome State Fault Refusal := (s.aluR8 .sbc .l).completes 4

/-- `SBC A,(HL)` (R173). -/
def execSbcAAtHl (s : State) : Host.Outcome State Fault Refusal := (s.aluR8 .sbc .atHl).completes 8

/-- `SBC A,A` (R173). -/
def execSbcAA (s : State) : Host.Outcome State Fault Refusal := (s.aluR8 .sbc .a).completes 4

/-- `AND A,B` (R174). -/
def execAndAB (s : State) : Host.Outcome State Fault Refusal := (s.aluR8 .and .b).completes 4

/-- `AND A,C` (R174). -/
def execAndAC (s : State) : Host.Outcome State Fault Refusal := (s.aluR8 .and .c).completes 4

/-- `AND A,D` (R174). -/
def execAndAD (s : State) : Host.Outcome State Fault Refusal := (s.aluR8 .and .d).completes 4

/-- `AND A,E` (R174). -/
def execAndAE (s : State) : Host.Outcome State Fault Refusal := (s.aluR8 .and .e).completes 4

/-- `AND A,H` (R174). -/
def execAndAH (s : State) : Host.Outcome State Fault Refusal := (s.aluR8 .and .h).completes 4

/-- `AND A,L` (R174). -/
def execAndAL (s : State) : Host.Outcome State Fault Refusal := (s.aluR8 .and .l).completes 4

/-- `AND A,(HL)` (R174). -/
def execAndAAtHl (s : State) : Host.Outcome State Fault Refusal := (s.aluR8 .and .atHl).completes 8

/-- `AND A,A` (R174). -/
def execAndAA (s : State) : Host.Outcome State Fault Refusal := (s.aluR8 .and .a).completes 4

/-- `XOR A,B` (R175). -/
def execXorAB (s : State) : Host.Outcome State Fault Refusal := (s.aluR8 .xor .b).completes 4

/-- `XOR A,C` (R175). -/
def execXorAC (s : State) : Host.Outcome State Fault Refusal := (s.aluR8 .xor .c).completes 4

/-- `XOR A,D` (R175). -/
def execXorAD (s : State) : Host.Outcome State Fault Refusal := (s.aluR8 .xor .d).completes 4

/-- `XOR A,E` (R175). -/
def execXorAE (s : State) : Host.Outcome State Fault Refusal := (s.aluR8 .xor .e).completes 4

/-- `XOR A,H` (R175). -/
def execXorAH (s : State) : Host.Outcome State Fault Refusal := (s.aluR8 .xor .h).completes 4

/-- `XOR A,L` (R175). -/
def execXorAL (s : State) : Host.Outcome State Fault Refusal := (s.aluR8 .xor .l).completes 4

/-- `XOR A,(HL)` (R175). -/
def execXorAAtHl (s : State) : Host.Outcome State Fault Refusal := (s.aluR8 .xor .atHl).completes 8

/-- `XOR A,A` (R175). -/
def execXorAA (s : State) : Host.Outcome State Fault Refusal := (s.aluR8 .xor .a).completes 4

/-- `OR A,B` (R176). -/
def execOrAB (s : State) : Host.Outcome State Fault Refusal := (s.aluR8 .or .b).completes 4

/-- `OR A,C` (R176). -/
def execOrAC (s : State) : Host.Outcome State Fault Refusal := (s.aluR8 .or .c).completes 4

/-- `OR A,D` (R176). -/
def execOrAD (s : State) : Host.Outcome State Fault Refusal := (s.aluR8 .or .d).completes 4

/-- `OR A,E` (R176). -/
def execOrAE (s : State) : Host.Outcome State Fault Refusal := (s.aluR8 .or .e).completes 4

/-- `OR A,H` (R176). -/
def execOrAH (s : State) : Host.Outcome State Fault Refusal := (s.aluR8 .or .h).completes 4

/-- `OR A,L` (R176). -/
def execOrAL (s : State) : Host.Outcome State Fault Refusal := (s.aluR8 .or .l).completes 4

/-- `OR A,(HL)` (R176). -/
def execOrAAtHl (s : State) : Host.Outcome State Fault Refusal := (s.aluR8 .or .atHl).completes 8

/-- `OR A,A` (R176). -/
def execOrAA (s : State) : Host.Outcome State Fault Refusal := (s.aluR8 .or .a).completes 4

/-- `CP A,B` (R177). -/
def execCpAB (s : State) : Host.Outcome State Fault Refusal := (s.aluR8 .cp .b).completes 4

/-- `CP A,C` (R177). -/
def execCpAC (s : State) : Host.Outcome State Fault Refusal := (s.aluR8 .cp .c).completes 4

/-- `CP A,D` (R177). -/
def execCpAD (s : State) : Host.Outcome State Fault Refusal := (s.aluR8 .cp .d).completes 4

/-- `CP A,E` (R177). -/
def execCpAE (s : State) : Host.Outcome State Fault Refusal := (s.aluR8 .cp .e).completes 4

/-- `CP A,H` (R177). -/
def execCpAH (s : State) : Host.Outcome State Fault Refusal := (s.aluR8 .cp .h).completes 4

/-- `CP A,L` (R177). -/
def execCpAL (s : State) : Host.Outcome State Fault Refusal := (s.aluR8 .cp .l).completes 4

/-- `CP A,(HL)` (R177). -/
def execCpAAtHl (s : State) : Host.Outcome State Fault Refusal := (s.aluR8 .cp .atHl).completes 8

/-- `CP A,A` (R177). -/
def execCpAA (s : State) : Host.Outcome State Fault Refusal := (s.aluR8 .cp .a).completes 4

/-- `ADD A,d8` (R170). -/
def execAddAD8 (n : Byte) (s : State) : Host.Outcome State Fault Refusal := (s.aluWith .add n).completes 8

/-- `ADC A,d8` (R171). -/
def execAdcAD8 (n : Byte) (s : State) : Host.Outcome State Fault Refusal := (s.aluWith .adc n).completes 8

/-- `SUB A,d8` (R172). -/
def execSubAD8 (n : Byte) (s : State) : Host.Outcome State Fault Refusal := (s.aluWith .sub n).completes 8

/-- `SBC A,d8` (R173). -/
def execSbcAD8 (n : Byte) (s : State) : Host.Outcome State Fault Refusal := (s.aluWith .sbc n).completes 8

/-- `AND A,d8` (R174). -/
def execAndAD8 (n : Byte) (s : State) : Host.Outcome State Fault Refusal := (s.aluWith .and n).completes 8

/-- `ADD SP,e8` (R179). -/
def execAddSpE8 (e : Byte) (s : State) : Host.Outcome State Fault Refusal := (s.addSp e).completes 16

/-- `XOR A,d8` (R175). -/
def execXorAD8 (n : Byte) (s : State) : Host.Outcome State Fault Refusal := (s.aluWith .xor n).completes 8

/-- `OR A,d8` (R176). -/
def execOrAD8 (n : Byte) (s : State) : Host.Outcome State Fault Refusal := (s.aluWith .or n).completes 8

/-- `CP A,d8` (R177). -/
def execCpAD8 (n : Byte) (s : State) : Host.Outcome State Fault Refusal := (s.aluWith .cp n).completes 8

end Sys2Proof.Machine
end

