-- ==== Sys2Proof/Machine/Control.lean ====
section
/-! DEFINITION. Control and system instructions (49_control.md R260–R265). The illegal bytes of R263 have no
instruction; their decode failure is `State.takeDecodeFailure`. -/

namespace Sys2Proof.Machine

/-- `EXEC <- Halted` (R261, R262). -/
def State.halt (s : State) : State := { s with execState := .halted }

/-- `IME <- v` (R264, R265). -/
def State.setIme (s : State) (v : Bool) : State := { s with ime := v }

/-! ## One meaning per instruction -/

/-- `NOP` (R260). -/
def execNop (s : State) : Host.Outcome State Fault Refusal := s.completes 4

/-- `STOP` (R262). -/
def execStop (_n : Byte) (s : State) : Host.Outcome State Fault Refusal := s.halt.completes 4

/-- `HALT` (R261). -/
def execHalt (s : State) : Host.Outcome State Fault Refusal := s.halt.completes 4

/-- `DI` (R264). -/
def execDi (s : State) : Host.Outcome State Fault Refusal := (s.setIme false).completes 4

/-- `EI` (R265). -/
def execEi (s : State) : Host.Outcome State Fault Refusal := (s.setIme true).completes 4

end Sys2Proof.Machine
end

