-- ==== Sys2Proof/Machine/IncDec.lean ====
section
/-! DEFINITION. Increment and decrement (42_incdec.md R160–R165). -/

namespace Sys2Proof.Machine

/-- Write a result to `r8[y]` and its flags. -/
def State.writeResult (s : State) (y : R8) (r : AluResult) : State := (s.writeR8 y r.value).setFlags r.z r.n r.h r.c

/-- `INC r8[y]`: Z, N, H; C unchanged (R160, R162). -/
def State.inc8 (s : State) (y : R8) : State := s.writeResult y (incByte (s.readR8 y) s.flagC)

/-- `DEC r8[y]`: Z, N, H; C unchanged (R161, R163). -/
def State.dec8 (s : State) (y : R8) : State := s.writeResult y (decByte (s.readR8 y) s.flagC)

/-- `INC rp[p]`: no flags (R164). -/
def State.incRp (s : State) (p : Rp) : State := s.writeRp p (s.readRp p + 1)

/-- `DEC rp[p]`: no flags (R165). -/
def State.decRp (s : State) (p : Rp) : State := s.writeRp p (s.readRp p - 1)

/-! ## One meaning per instruction -/

/-- `INC BC` (R164). -/
def execIncBc (s : State) : Host.Outcome State Fault Refusal := (s.incRp .bc).completes 8

/-- `INC B` (R160). -/
def execIncB (s : State) : Host.Outcome State Fault Refusal := (s.inc8 .b).completes 4

/-- `DEC B` (R161). -/
def execDecB (s : State) : Host.Outcome State Fault Refusal := (s.dec8 .b).completes 4

/-- `DEC BC` (R165). -/
def execDecBc (s : State) : Host.Outcome State Fault Refusal := (s.decRp .bc).completes 8

/-- `INC C` (R160). -/
def execIncC (s : State) : Host.Outcome State Fault Refusal := (s.inc8 .c).completes 4

/-- `DEC C` (R161). -/
def execDecC (s : State) : Host.Outcome State Fault Refusal := (s.dec8 .c).completes 4

/-- `INC DE` (R164). -/
def execIncDe (s : State) : Host.Outcome State Fault Refusal := (s.incRp .de).completes 8

/-- `INC D` (R160). -/
def execIncD (s : State) : Host.Outcome State Fault Refusal := (s.inc8 .d).completes 4

/-- `DEC D` (R161). -/
def execDecD (s : State) : Host.Outcome State Fault Refusal := (s.dec8 .d).completes 4

/-- `DEC DE` (R165). -/
def execDecDe (s : State) : Host.Outcome State Fault Refusal := (s.decRp .de).completes 8

/-- `INC E` (R160). -/
def execIncE (s : State) : Host.Outcome State Fault Refusal := (s.inc8 .e).completes 4

/-- `DEC E` (R161). -/
def execDecE (s : State) : Host.Outcome State Fault Refusal := (s.dec8 .e).completes 4

/-- `INC HL` (R164). -/
def execIncHl (s : State) : Host.Outcome State Fault Refusal := (s.incRp .hl).completes 8

/-- `INC H` (R160). -/
def execIncH (s : State) : Host.Outcome State Fault Refusal := (s.inc8 .h).completes 4

/-- `DEC H` (R161). -/
def execDecH (s : State) : Host.Outcome State Fault Refusal := (s.dec8 .h).completes 4

/-- `DEC HL` (R165). -/
def execDecHl (s : State) : Host.Outcome State Fault Refusal := (s.decRp .hl).completes 8

/-- `INC L` (R160). -/
def execIncL (s : State) : Host.Outcome State Fault Refusal := (s.inc8 .l).completes 4

/-- `DEC L` (R161). -/
def execDecL (s : State) : Host.Outcome State Fault Refusal := (s.dec8 .l).completes 4

/-- `INC SP` (R164). -/
def execIncSp (s : State) : Host.Outcome State Fault Refusal := (s.incRp .sp).completes 8

/-- `INC (HL)` (R162). -/
def execIncAtHl (s : State) : Host.Outcome State Fault Refusal := (s.inc8 .atHl).completes 12

/-- `DEC (HL)` (R163). -/
def execDecAtHl (s : State) : Host.Outcome State Fault Refusal := (s.dec8 .atHl).completes 12

/-- `DEC SP` (R165). -/
def execDecSp (s : State) : Host.Outcome State Fault Refusal := (s.decRp .sp).completes 8

/-- `INC A` (R160). -/
def execIncA (s : State) : Host.Outcome State Fault Refusal := (s.inc8 .a).completes 4

/-- `DEC A` (R161). -/
def execDecA (s : State) : Host.Outcome State Fault Refusal := (s.dec8 .a).completes 4

end Sys2Proof.Machine
end

