-- ==== Sys2Proof/Machine/Load.lean ====
section
/-! DEFINITION. The 8-bit and 16-bit loads (41_load.md R130–R153). The state an instruction starts from is the one
after its bytes are fetched; only R150 writes a flag. -/

namespace Sys2Proof.Machine

/-- `r8[y] <- r8[z]` (R131–R133). -/
def State.move8 (s : State) (y z : R8) : State := s.writeR8 y (s.readR8 z)

/-- `MemWrite(a, 1, A)` (R136, R137, R144, R230, R232). -/
def State.storeA (s : State) (a : Word) : State := s.writeByte a s.a

/-- `A <- MemRead(a, 1)` (R138, R139, R145, R231, R233). -/
def State.loadA (s : State) (a : Word) : State := { s with a := s.readByte a }

/-- `HL <- HL + 1` as a u16, after the access (R140, R142). -/
def State.stepHlUp (s : State) : State := s.setHl (s.hl + 1)

/-- `HL <- HL - 1` as a u16, after the access (R141, R143). -/
def State.stepHlDown (s : State) : State := s.setHl (s.hl - 1)

/-- `LD HL,SP+e8`: Z and N cleared, H and C from the unsigned low-byte sum (R150). -/
def State.loadHlSp (s : State) (e : Byte) : State :=
  (s.setHl (s.sp + sext16 e)).setFlags false false (carry4 (lo8 s.sp) e false) (carry8 (lo8 s.sp) e false)

/-! ## One meaning per instruction -/

/-- `LD BC,d16` (R151). -/
def execLdBcD16 (v : Word) (s : State) : Host.Outcome State Fault Refusal := (s.writeRp .bc v).completes 12

/-- `LD (BC),A` (R136). -/
def execLdAtBcA (s : State) : Host.Outcome State Fault Refusal := (s.storeA s.bc).completes 8

/-- `LD B,d8` (R134). -/
def execLdBD8 (n : Byte) (s : State) : Host.Outcome State Fault Refusal := (s.writeR8 .b n).completes 8

/-- `LD (a16),SP` (R152). -/
def execLdAtA16Sp (a : Word) (s : State) : Host.Outcome State Fault Refusal := (s.writeWord a s.sp).completes 20

/-- `LD A,(BC)` (R138). -/
def execLdAAtBc (s : State) : Host.Outcome State Fault Refusal := (s.loadA s.bc).completes 8

/-- `LD C,d8` (R134). -/
def execLdCD8 (n : Byte) (s : State) : Host.Outcome State Fault Refusal := (s.writeR8 .c n).completes 8

/-- `LD DE,d16` (R151). -/
def execLdDeD16 (v : Word) (s : State) : Host.Outcome State Fault Refusal := (s.writeRp .de v).completes 12

/-- `LD (DE),A` (R137). -/
def execLdAtDeA (s : State) : Host.Outcome State Fault Refusal := (s.storeA s.de).completes 8

/-- `LD D,d8` (R134). -/
def execLdDD8 (n : Byte) (s : State) : Host.Outcome State Fault Refusal := (s.writeR8 .d n).completes 8

/-- `LD A,(DE)` (R139). -/
def execLdAAtDe (s : State) : Host.Outcome State Fault Refusal := (s.loadA s.de).completes 8

/-- `LD E,d8` (R134). -/
def execLdED8 (n : Byte) (s : State) : Host.Outcome State Fault Refusal := (s.writeR8 .e n).completes 8

/-- `LD HL,d16` (R151). -/
def execLdHlD16 (v : Word) (s : State) : Host.Outcome State Fault Refusal := (s.writeRp .hl v).completes 12

/-- `LD (HL+),A` (R140). -/
def execLdAtHliA (s : State) : Host.Outcome State Fault Refusal := ((s.storeA s.hl).stepHlUp).completes 8

/-- `LD H,d8` (R134). -/
def execLdHD8 (n : Byte) (s : State) : Host.Outcome State Fault Refusal := (s.writeR8 .h n).completes 8

/-- `LD A,(HL+)` (R142). -/
def execLdAAtHli (s : State) : Host.Outcome State Fault Refusal := ((s.loadA s.hl).stepHlUp).completes 8

/-- `LD L,d8` (R134). -/
def execLdLD8 (n : Byte) (s : State) : Host.Outcome State Fault Refusal := (s.writeR8 .l n).completes 8

/-- `LD SP,d16` (R151). -/
def execLdSpD16 (v : Word) (s : State) : Host.Outcome State Fault Refusal := (s.writeRp .sp v).completes 12

/-- `LD (HL-),A` (R141). -/
def execLdAtHldA (s : State) : Host.Outcome State Fault Refusal := ((s.storeA s.hl).stepHlDown).completes 8

/-- `LD (HL),d8` (R135). -/
def execLdAtHlD8 (n : Byte) (s : State) : Host.Outcome State Fault Refusal := (s.writeR8 .atHl n).completes 12

/-- `LD A,(HL-)` (R143). -/
def execLdAAtHld (s : State) : Host.Outcome State Fault Refusal := ((s.loadA s.hl).stepHlDown).completes 8

/-- `LD A,d8` (R134). -/
def execLdAD8 (n : Byte) (s : State) : Host.Outcome State Fault Refusal := (s.writeR8 .a n).completes 8

/-- `LD B,B` (R131). -/
def execLdBB (s : State) : Host.Outcome State Fault Refusal := (s.move8 .b .b).completes 4

/-- `LD B,C` (R131). -/
def execLdBC (s : State) : Host.Outcome State Fault Refusal := (s.move8 .b .c).completes 4

/-- `LD B,D` (R131). -/
def execLdBD (s : State) : Host.Outcome State Fault Refusal := (s.move8 .b .d).completes 4

/-- `LD B,E` (R131). -/
def execLdBE (s : State) : Host.Outcome State Fault Refusal := (s.move8 .b .e).completes 4

/-- `LD B,H` (R131). -/
def execLdBH (s : State) : Host.Outcome State Fault Refusal := (s.move8 .b .h).completes 4

/-- `LD B,L` (R131). -/
def execLdBL (s : State) : Host.Outcome State Fault Refusal := (s.move8 .b .l).completes 4

/-- `LD B,(HL)` (R132). -/
def execLdBAtHl (s : State) : Host.Outcome State Fault Refusal := (s.move8 .b .atHl).completes 8

/-- `LD B,A` (R131). -/
def execLdBA (s : State) : Host.Outcome State Fault Refusal := (s.move8 .b .a).completes 4

/-- `LD C,B` (R131). -/
def execLdCB (s : State) : Host.Outcome State Fault Refusal := (s.move8 .c .b).completes 4

/-- `LD C,C` (R131). -/
def execLdCC (s : State) : Host.Outcome State Fault Refusal := (s.move8 .c .c).completes 4

/-- `LD C,D` (R131). -/
def execLdCD (s : State) : Host.Outcome State Fault Refusal := (s.move8 .c .d).completes 4

/-- `LD C,E` (R131). -/
def execLdCE (s : State) : Host.Outcome State Fault Refusal := (s.move8 .c .e).completes 4

/-- `LD C,H` (R131). -/
def execLdCH (s : State) : Host.Outcome State Fault Refusal := (s.move8 .c .h).completes 4

/-- `LD C,L` (R131). -/
def execLdCL (s : State) : Host.Outcome State Fault Refusal := (s.move8 .c .l).completes 4

/-- `LD C,(HL)` (R132). -/
def execLdCAtHl (s : State) : Host.Outcome State Fault Refusal := (s.move8 .c .atHl).completes 8

/-- `LD C,A` (R131). -/
def execLdCA (s : State) : Host.Outcome State Fault Refusal := (s.move8 .c .a).completes 4

/-- `LD D,B` (R131). -/
def execLdDB (s : State) : Host.Outcome State Fault Refusal := (s.move8 .d .b).completes 4

/-- `LD D,C` (R131). -/
def execLdDC (s : State) : Host.Outcome State Fault Refusal := (s.move8 .d .c).completes 4

/-- `LD D,D` (R131). -/
def execLdDD (s : State) : Host.Outcome State Fault Refusal := (s.move8 .d .d).completes 4

/-- `LD D,E` (R131). -/
def execLdDE (s : State) : Host.Outcome State Fault Refusal := (s.move8 .d .e).completes 4

/-- `LD D,H` (R131). -/
def execLdDH (s : State) : Host.Outcome State Fault Refusal := (s.move8 .d .h).completes 4

/-- `LD D,L` (R131). -/
def execLdDL (s : State) : Host.Outcome State Fault Refusal := (s.move8 .d .l).completes 4

/-- `LD D,(HL)` (R132). -/
def execLdDAtHl (s : State) : Host.Outcome State Fault Refusal := (s.move8 .d .atHl).completes 8

/-- `LD D,A` (R131). -/
def execLdDA (s : State) : Host.Outcome State Fault Refusal := (s.move8 .d .a).completes 4

/-- `LD E,B` (R131). -/
def execLdEB (s : State) : Host.Outcome State Fault Refusal := (s.move8 .e .b).completes 4

/-- `LD E,C` (R131). -/
def execLdEC (s : State) : Host.Outcome State Fault Refusal := (s.move8 .e .c).completes 4

/-- `LD E,D` (R131). -/
def execLdED (s : State) : Host.Outcome State Fault Refusal := (s.move8 .e .d).completes 4

/-- `LD E,E` (R131). -/
def execLdEE (s : State) : Host.Outcome State Fault Refusal := (s.move8 .e .e).completes 4

/-- `LD E,H` (R131). -/
def execLdEH (s : State) : Host.Outcome State Fault Refusal := (s.move8 .e .h).completes 4

/-- `LD E,L` (R131). -/
def execLdEL (s : State) : Host.Outcome State Fault Refusal := (s.move8 .e .l).completes 4

/-- `LD E,(HL)` (R132). -/
def execLdEAtHl (s : State) : Host.Outcome State Fault Refusal := (s.move8 .e .atHl).completes 8

/-- `LD E,A` (R131). -/
def execLdEA (s : State) : Host.Outcome State Fault Refusal := (s.move8 .e .a).completes 4

/-- `LD H,B` (R131). -/
def execLdHB (s : State) : Host.Outcome State Fault Refusal := (s.move8 .h .b).completes 4

/-- `LD H,C` (R131). -/
def execLdHC (s : State) : Host.Outcome State Fault Refusal := (s.move8 .h .c).completes 4

/-- `LD H,D` (R131). -/
def execLdHD (s : State) : Host.Outcome State Fault Refusal := (s.move8 .h .d).completes 4

/-- `LD H,E` (R131). -/
def execLdHE (s : State) : Host.Outcome State Fault Refusal := (s.move8 .h .e).completes 4

/-- `LD H,H` (R131). -/
def execLdHH (s : State) : Host.Outcome State Fault Refusal := (s.move8 .h .h).completes 4

/-- `LD H,L` (R131). -/
def execLdHL (s : State) : Host.Outcome State Fault Refusal := (s.move8 .h .l).completes 4

/-- `LD H,(HL)` (R132). -/
def execLdHAtHl (s : State) : Host.Outcome State Fault Refusal := (s.move8 .h .atHl).completes 8

/-- `LD H,A` (R131). -/
def execLdHA (s : State) : Host.Outcome State Fault Refusal := (s.move8 .h .a).completes 4

/-- `LD L,B` (R131). -/
def execLdLB (s : State) : Host.Outcome State Fault Refusal := (s.move8 .l .b).completes 4

/-- `LD L,C` (R131). -/
def execLdLC (s : State) : Host.Outcome State Fault Refusal := (s.move8 .l .c).completes 4

/-- `LD L,D` (R131). -/
def execLdLD (s : State) : Host.Outcome State Fault Refusal := (s.move8 .l .d).completes 4

/-- `LD L,E` (R131). -/
def execLdLE (s : State) : Host.Outcome State Fault Refusal := (s.move8 .l .e).completes 4

/-- `LD L,H` (R131). -/
def execLdLH (s : State) : Host.Outcome State Fault Refusal := (s.move8 .l .h).completes 4

/-- `LD L,L` (R131). -/
def execLdLL (s : State) : Host.Outcome State Fault Refusal := (s.move8 .l .l).completes 4

/-- `LD L,(HL)` (R132). -/
def execLdLAtHl (s : State) : Host.Outcome State Fault Refusal := (s.move8 .l .atHl).completes 8

/-- `LD L,A` (R131). -/
def execLdLA (s : State) : Host.Outcome State Fault Refusal := (s.move8 .l .a).completes 4

/-- `LD (HL),B` (R133). -/
def execLdAtHlB (s : State) : Host.Outcome State Fault Refusal := (s.move8 .atHl .b).completes 8

/-- `LD (HL),C` (R133). -/
def execLdAtHlC (s : State) : Host.Outcome State Fault Refusal := (s.move8 .atHl .c).completes 8

/-- `LD (HL),D` (R133). -/
def execLdAtHlD (s : State) : Host.Outcome State Fault Refusal := (s.move8 .atHl .d).completes 8

/-- `LD (HL),E` (R133). -/
def execLdAtHlE (s : State) : Host.Outcome State Fault Refusal := (s.move8 .atHl .e).completes 8

/-- `LD (HL),H` (R133). -/
def execLdAtHlH (s : State) : Host.Outcome State Fault Refusal := (s.move8 .atHl .h).completes 8

/-- `LD (HL),L` (R133). -/
def execLdAtHlL (s : State) : Host.Outcome State Fault Refusal := (s.move8 .atHl .l).completes 8

/-- `LD (HL),A` (R133). -/
def execLdAtHlA (s : State) : Host.Outcome State Fault Refusal := (s.move8 .atHl .a).completes 8

/-- `LD A,B` (R131). -/
def execLdAB (s : State) : Host.Outcome State Fault Refusal := (s.move8 .a .b).completes 4

/-- `LD A,C` (R131). -/
def execLdAC (s : State) : Host.Outcome State Fault Refusal := (s.move8 .a .c).completes 4

/-- `LD A,D` (R131). -/
def execLdAD (s : State) : Host.Outcome State Fault Refusal := (s.move8 .a .d).completes 4

/-- `LD A,E` (R131). -/
def execLdAE (s : State) : Host.Outcome State Fault Refusal := (s.move8 .a .e).completes 4

/-- `LD A,H` (R131). -/
def execLdAH (s : State) : Host.Outcome State Fault Refusal := (s.move8 .a .h).completes 4

/-- `LD A,L` (R131). -/
def execLdAL (s : State) : Host.Outcome State Fault Refusal := (s.move8 .a .l).completes 4

/-- `LD A,(HL)` (R132). -/
def execLdAAtHl (s : State) : Host.Outcome State Fault Refusal := (s.move8 .a .atHl).completes 8

/-- `LD A,A` (R131). -/
def execLdAA (s : State) : Host.Outcome State Fault Refusal := (s.move8 .a .a).completes 4

/-- `LD (a16),A` (R144). -/
def execLdAtA16A (a : Word) (s : State) : Host.Outcome State Fault Refusal := (s.storeA a).completes 16

/-- `LD HL,SP+e8` (R150). -/
def execLdHlSpE8 (e : Byte) (s : State) : Host.Outcome State Fault Refusal := (s.loadHlSp e).completes 12

/-- `LD SP,HL` (R153). -/
def execLdSpHl (s : State) : Host.Outcome State Fault Refusal := (s.writeRp .sp s.hl).completes 8

/-- `LD A,(a16)` (R145). -/
def execLdAAtA16 (a : Word) (s : State) : Host.Outcome State Fault Refusal := (s.loadA a).completes 16

end Sys2Proof.Machine
end

