-- ==== Sys2Proof/Machine/IoPage.lean ====
section
/-! DEFINITION. The I/O-page loads (47_io_page.md R230–R233): ordinary accesses to 0xFF00–0xFFFF. -/

namespace Sys2Proof.Machine

/-! ## One meaning per instruction -/

/-- `LDH (a8),A` (R230). -/
def execLdhAtA8A (o : Byte) (s : State) : Host.Outcome State Fault Refusal := (s.storeA (ioAddress o)).completes 12

/-- `LD (C),A` (R232). -/
def execLdAtCA (s : State) : Host.Outcome State Fault Refusal := (s.storeA (ioAddress s.c)).completes 8

/-- `LDH A,(a8)` (R231). -/
def execLdhAAtA8 (o : Byte) (s : State) : Host.Outcome State Fault Refusal := (s.loadA (ioAddress o)).completes 12

/-- `LD A,(C)` (R233). -/
def execLdAAtC (s : State) : Host.Outcome State Fault Refusal := (s.loadA (ioAddress s.c)).completes 8

end Sys2Proof.Machine
end

