-- ==== Sys2Proof/Machine/Jump.lean ====
section
/-! DEFINITION. Jumps (45_jump.md R200–R204). The PC read is the one after the instruction's bytes (40_engine.md
R117). -/

namespace Sys2Proof.Machine

/-- `PC <- PC + sext_16(e)` as a u16 (R200). -/
def State.jumpBy (s : State) (e : Byte) : State := { s with pc := s.pc + sext16 e }

/-- `PC <- a` (R202). -/
def State.jumpTo (s : State) (a : Word) : State := { s with pc := a }

/-- A conditional transfer: taken it has the effect `t` and costs `base`, not taken it changes nothing and costs `alt`
(30_encoding.md R102). -/
def State.conditional (s : State) (k : Cc) (t : State) (base alt : Nat) : Host.Outcome State Fault Refusal :=
  if s.cond k then t.completes base else s.completes alt

/-! ## One meaning per instruction -/

/-- `JR e8` (R200). -/
def execJrE8 (e : Byte) (s : State) : Host.Outcome State Fault Refusal := (s.jumpBy e).completes 12

/-- `JR NZ,e8` (R201). -/
def execJrNzE8 (e : Byte) (s : State) : Host.Outcome State Fault Refusal := s.conditional .nz (s.jumpBy e) 12 8

/-- `JR Z,e8` (R201). -/
def execJrZE8 (e : Byte) (s : State) : Host.Outcome State Fault Refusal := s.conditional .z (s.jumpBy e) 12 8

/-- `JR NC,e8` (R201). -/
def execJrNcE8 (e : Byte) (s : State) : Host.Outcome State Fault Refusal := s.conditional .nc (s.jumpBy e) 12 8

/-- `JR C,e8` (R201). -/
def execJrCE8 (e : Byte) (s : State) : Host.Outcome State Fault Refusal := s.conditional .c (s.jumpBy e) 12 8

/-- `JP NZ,a16` (R204). -/
def execJpNzA16 (a : Word) (s : State) : Host.Outcome State Fault Refusal := s.conditional .nz (s.jumpTo a) 16 12

/-- `JP a16` (R202). -/
def execJpA16 (a : Word) (s : State) : Host.Outcome State Fault Refusal := (s.jumpTo a).completes 16

/-- `JP Z,a16` (R204). -/
def execJpZA16 (a : Word) (s : State) : Host.Outcome State Fault Refusal := s.conditional .z (s.jumpTo a) 16 12

/-- `JP NC,a16` (R204). -/
def execJpNcA16 (a : Word) (s : State) : Host.Outcome State Fault Refusal := s.conditional .nc (s.jumpTo a) 16 12

/-- `JP C,a16` (R204). -/
def execJpCA16 (a : Word) (s : State) : Host.Outcome State Fault Refusal := s.conditional .c (s.jumpTo a) 16 12

/-- `JP HL` (R203). -/
def execJpHl (s : State) : Host.Outcome State Fault Refusal := (s.jumpTo s.hl).completes 4

end Sys2Proof.Machine
end

