-- ==== Sys2Proof/Machine/Rotate.lean ====
section
/-! DEFINITION. The accumulator rotates (44_rotate.md R190–R194). -/

namespace Sys2Proof.Machine

/-- An accumulator rotate: the result and the evicted bit as in the secondary space, N and H cleared, Z by `ROT_A_Z`
(R194). -/
def State.rotateA (s : State) (op : RotOp) : State :=
  let r := rotate op s.a s.flagC
  { s.setFlags (rotAZero s.params.rotAZ r.1) false false r.2 with a := r.1 }

/-! ## One meaning per instruction -/

/-- `RLCA` (R190). -/
def execRlca (s : State) : Host.Outcome State Fault Refusal := (s.rotateA .rlc).completes 4

/-- `RRCA` (R191). -/
def execRrca (s : State) : Host.Outcome State Fault Refusal := (s.rotateA .rrc).completes 4

/-- `RLA` (R192). -/
def execRla (s : State) : Host.Outcome State Fault Refusal := (s.rotateA .rl).completes 4

/-- `RRA` (R193). -/
def execRra (s : State) : Host.Outcome State Fault Refusal := (s.rotateA .rr).completes 4

end Sys2Proof.Machine
end

