-- ==== Sys2Proof/Machine/Secondary.lean ====
section
/-! DEFINITION. The secondary-space entry and the secondary-space operations (48_prefix_cb.md R240–R252). -/

namespace Sys2Proof.Machine

/-- The prefix: `CB_LATCH <- true` and no other effect (R240). -/
def State.enterSecondary (s : State) : State := { s with cbLatch := true }

/-- `rot[y] r8[z]`: the operand read once and written once; Z from the result, N and H cleared, C the evicted bit
(R241–R248, R252). -/
def State.rotR8 (s : State) (op : RotOp) (z : R8) : State :=
  let r := rotate op (s.readR8 z) s.flagC
  (s.writeR8 z r.1).setFlags (r.1 == 0) false false r.2

/-- `BIT y,r8[z]`: Z is the complement of the bit, N cleared, H set, C unchanged; nothing is written (R249). -/
def State.bitR8 (s : State) (y : Fin 8) (z : R8) : State :=
  s.setFlags (!bitOf (s.readR8 z) y) false true s.flagC

/-- `RES y,r8[z]`: no flags (R250). -/
def State.resR8 (s : State) (y : Fin 8) (z : R8) : State := s.writeR8 z (s.readR8 z &&& ~~~(1#8 <<< y.val))

/-- `SET y,r8[z]`: no flags (R251). -/
def State.setR8 (s : State) (y : Fin 8) (z : R8) : State := s.writeR8 z (s.readR8 z ||| (1#8 <<< y.val))

/-! ## One meaning per instruction -/

/-- `PREFIX CB` (R240). -/
def execPrefixCb (s : State) : Host.Outcome State Fault Refusal := s.enterSecondary.completes 4

/-- `RLC B` (R241). -/
def execRlcB (s : State) : Host.Outcome State Fault Refusal := (s.rotR8 .rlc .b).completes 4

/-- `RLC C` (R241). -/
def execRlcC (s : State) : Host.Outcome State Fault Refusal := (s.rotR8 .rlc .c).completes 4

/-- `RLC D` (R241). -/
def execRlcD (s : State) : Host.Outcome State Fault Refusal := (s.rotR8 .rlc .d).completes 4

/-- `RLC E` (R241). -/
def execRlcE (s : State) : Host.Outcome State Fault Refusal := (s.rotR8 .rlc .e).completes 4

/-- `RLC H` (R241). -/
def execRlcH (s : State) : Host.Outcome State Fault Refusal := (s.rotR8 .rlc .h).completes 4

/-- `RLC L` (R241). -/
def execRlcL (s : State) : Host.Outcome State Fault Refusal := (s.rotR8 .rlc .l).completes 4

/-- `RLC (HL)` (R241). -/
def execRlcAtHl (s : State) : Host.Outcome State Fault Refusal := (s.rotR8 .rlc .atHl).completes 12

/-- `RLC A` (R241). -/
def execRlcA (s : State) : Host.Outcome State Fault Refusal := (s.rotR8 .rlc .a).completes 4

/-- `RRC B` (R242). -/
def execRrcB (s : State) : Host.Outcome State Fault Refusal := (s.rotR8 .rrc .b).completes 4

/-- `RRC C` (R242). -/
def execRrcC (s : State) : Host.Outcome State Fault Refusal := (s.rotR8 .rrc .c).completes 4

/-- `RRC D` (R242). -/
def execRrcD (s : State) : Host.Outcome State Fault Refusal := (s.rotR8 .rrc .d).completes 4

/-- `RRC E` (R242). -/
def execRrcE (s : State) : Host.Outcome State Fault Refusal := (s.rotR8 .rrc .e).completes 4

/-- `RRC H` (R242). -/
def execRrcH (s : State) : Host.Outcome State Fault Refusal := (s.rotR8 .rrc .h).completes 4

/-- `RRC L` (R242). -/
def execRrcL (s : State) : Host.Outcome State Fault Refusal := (s.rotR8 .rrc .l).completes 4

/-- `RRC (HL)` (R242). -/
def execRrcAtHl (s : State) : Host.Outcome State Fault Refusal := (s.rotR8 .rrc .atHl).completes 12

/-- `RRC A` (R242). -/
def execRrcA (s : State) : Host.Outcome State Fault Refusal := (s.rotR8 .rrc .a).completes 4

/-- `RL B` (R243). -/
def execRlB (s : State) : Host.Outcome State Fault Refusal := (s.rotR8 .rl .b).completes 4

/-- `RL C` (R243). -/
def execRlC (s : State) : Host.Outcome State Fault Refusal := (s.rotR8 .rl .c).completes 4

/-- `RL D` (R243). -/
def execRlD (s : State) : Host.Outcome State Fault Refusal := (s.rotR8 .rl .d).completes 4

/-- `RL E` (R243). -/
def execRlE (s : State) : Host.Outcome State Fault Refusal := (s.rotR8 .rl .e).completes 4

/-- `RL H` (R243). -/
def execRlH (s : State) : Host.Outcome State Fault Refusal := (s.rotR8 .rl .h).completes 4

/-- `RL L` (R243). -/
def execRlL (s : State) : Host.Outcome State Fault Refusal := (s.rotR8 .rl .l).completes 4

/-- `RL (HL)` (R243). -/
def execRlAtHl (s : State) : Host.Outcome State Fault Refusal := (s.rotR8 .rl .atHl).completes 12

/-- `RL A` (R243). -/
def execRlA (s : State) : Host.Outcome State Fault Refusal := (s.rotR8 .rl .a).completes 4

/-- `RR B` (R244). -/
def execRrB (s : State) : Host.Outcome State Fault Refusal := (s.rotR8 .rr .b).completes 4

/-- `RR C` (R244). -/
def execRrC (s : State) : Host.Outcome State Fault Refusal := (s.rotR8 .rr .c).completes 4

/-- `RR D` (R244). -/
def execRrD (s : State) : Host.Outcome State Fault Refusal := (s.rotR8 .rr .d).completes 4

/-- `RR E` (R244). -/
def execRrE (s : State) : Host.Outcome State Fault Refusal := (s.rotR8 .rr .e).completes 4

/-- `RR H` (R244). -/
def execRrH (s : State) : Host.Outcome State Fault Refusal := (s.rotR8 .rr .h).completes 4

/-- `RR L` (R244). -/
def execRrL (s : State) : Host.Outcome State Fault Refusal := (s.rotR8 .rr .l).completes 4

/-- `RR (HL)` (R244). -/
def execRrAtHl (s : State) : Host.Outcome State Fault Refusal := (s.rotR8 .rr .atHl).completes 12

/-- `RR A` (R244). -/
def execRrA (s : State) : Host.Outcome State Fault Refusal := (s.rotR8 .rr .a).completes 4

/-- `SLA B` (R245). -/
def execSlaB (s : State) : Host.Outcome State Fault Refusal := (s.rotR8 .sla .b).completes 4

/-- `SLA C` (R245). -/
def execSlaC (s : State) : Host.Outcome State Fault Refusal := (s.rotR8 .sla .c).completes 4

/-- `SLA D` (R245). -/
def execSlaD (s : State) : Host.Outcome State Fault Refusal := (s.rotR8 .sla .d).completes 4

/-- `SLA E` (R245). -/
def execSlaE (s : State) : Host.Outcome State Fault Refusal := (s.rotR8 .sla .e).completes 4

/-- `SLA H` (R245). -/
def execSlaH (s : State) : Host.Outcome State Fault Refusal := (s.rotR8 .sla .h).completes 4

/-- `SLA L` (R245). -/
def execSlaL (s : State) : Host.Outcome State Fault Refusal := (s.rotR8 .sla .l).completes 4

/-- `SLA (HL)` (R245). -/
def execSlaAtHl (s : State) : Host.Outcome State Fault Refusal := (s.rotR8 .sla .atHl).completes 12

/-- `SLA A` (R245). -/
def execSlaA (s : State) : Host.Outcome State Fault Refusal := (s.rotR8 .sla .a).completes 4

/-- `SRA B` (R246). -/
def execSraB (s : State) : Host.Outcome State Fault Refusal := (s.rotR8 .sra .b).completes 4

/-- `SRA C` (R246). -/
def execSraC (s : State) : Host.Outcome State Fault Refusal := (s.rotR8 .sra .c).completes 4

/-- `SRA D` (R246). -/
def execSraD (s : State) : Host.Outcome State Fault Refusal := (s.rotR8 .sra .d).completes 4

/-- `SRA E` (R246). -/
def execSraE (s : State) : Host.Outcome State Fault Refusal := (s.rotR8 .sra .e).completes 4

/-- `SRA H` (R246). -/
def execSraH (s : State) : Host.Outcome State Fault Refusal := (s.rotR8 .sra .h).completes 4

/-- `SRA L` (R246). -/
def execSraL (s : State) : Host.Outcome State Fault Refusal := (s.rotR8 .sra .l).completes 4

/-- `SRA (HL)` (R246). -/
def execSraAtHl (s : State) : Host.Outcome State Fault Refusal := (s.rotR8 .sra .atHl).completes 12

/-- `SRA A` (R246). -/
def execSraA (s : State) : Host.Outcome State Fault Refusal := (s.rotR8 .sra .a).completes 4

/-- `SWAP B` (R247). -/
def execSwapB (s : State) : Host.Outcome State Fault Refusal := (s.rotR8 .swap .b).completes 4

/-- `SWAP C` (R247). -/
def execSwapC (s : State) : Host.Outcome State Fault Refusal := (s.rotR8 .swap .c).completes 4

/-- `SWAP D` (R247). -/
def execSwapD (s : State) : Host.Outcome State Fault Refusal := (s.rotR8 .swap .d).completes 4

/-- `SWAP E` (R247). -/
def execSwapE (s : State) : Host.Outcome State Fault Refusal := (s.rotR8 .swap .e).completes 4

/-- `SWAP H` (R247). -/
def execSwapH (s : State) : Host.Outcome State Fault Refusal := (s.rotR8 .swap .h).completes 4

/-- `SWAP L` (R247). -/
def execSwapL (s : State) : Host.Outcome State Fault Refusal := (s.rotR8 .swap .l).completes 4

/-- `SWAP (HL)` (R247). -/
def execSwapAtHl (s : State) : Host.Outcome State Fault Refusal := (s.rotR8 .swap .atHl).completes 12

/-- `SWAP A` (R247). -/
def execSwapA (s : State) : Host.Outcome State Fault Refusal := (s.rotR8 .swap .a).completes 4

/-- `SRL B` (R248). -/
def execSrlB (s : State) : Host.Outcome State Fault Refusal := (s.rotR8 .srl .b).completes 4

/-- `SRL C` (R248). -/
def execSrlC (s : State) : Host.Outcome State Fault Refusal := (s.rotR8 .srl .c).completes 4

/-- `SRL D` (R248). -/
def execSrlD (s : State) : Host.Outcome State Fault Refusal := (s.rotR8 .srl .d).completes 4

/-- `SRL E` (R248). -/
def execSrlE (s : State) : Host.Outcome State Fault Refusal := (s.rotR8 .srl .e).completes 4

/-- `SRL H` (R248). -/
def execSrlH (s : State) : Host.Outcome State Fault Refusal := (s.rotR8 .srl .h).completes 4

/-- `SRL L` (R248). -/
def execSrlL (s : State) : Host.Outcome State Fault Refusal := (s.rotR8 .srl .l).completes 4

/-- `SRL (HL)` (R248). -/
def execSrlAtHl (s : State) : Host.Outcome State Fault Refusal := (s.rotR8 .srl .atHl).completes 12

/-- `SRL A` (R248). -/
def execSrlA (s : State) : Host.Outcome State Fault Refusal := (s.rotR8 .srl .a).completes 4

/-- `BIT 0,B` (R249). -/
def execBit0B (s : State) : Host.Outcome State Fault Refusal := (s.bitR8 0 .b).completes 4

/-- `BIT 0,C` (R249). -/
def execBit0C (s : State) : Host.Outcome State Fault Refusal := (s.bitR8 0 .c).completes 4

/-- `BIT 0,D` (R249). -/
def execBit0D (s : State) : Host.Outcome State Fault Refusal := (s.bitR8 0 .d).completes 4

/-- `BIT 0,E` (R249). -/
def execBit0E (s : State) : Host.Outcome State Fault Refusal := (s.bitR8 0 .e).completes 4

/-- `BIT 0,H` (R249). -/
def execBit0H (s : State) : Host.Outcome State Fault Refusal := (s.bitR8 0 .h).completes 4

/-- `BIT 0,L` (R249). -/
def execBit0L (s : State) : Host.Outcome State Fault Refusal := (s.bitR8 0 .l).completes 4

/-- `BIT 0,(HL)` (R249). -/
def execBit0AtHl (s : State) : Host.Outcome State Fault Refusal := (s.bitR8 0 .atHl).completes 8

/-- `BIT 0,A` (R249). -/
def execBit0A (s : State) : Host.Outcome State Fault Refusal := (s.bitR8 0 .a).completes 4

/-- `BIT 1,B` (R249). -/
def execBit1B (s : State) : Host.Outcome State Fault Refusal := (s.bitR8 1 .b).completes 4

/-- `BIT 1,C` (R249). -/
def execBit1C (s : State) : Host.Outcome State Fault Refusal := (s.bitR8 1 .c).completes 4

/-- `BIT 1,D` (R249). -/
def execBit1D (s : State) : Host.Outcome State Fault Refusal := (s.bitR8 1 .d).completes 4

/-- `BIT 1,E` (R249). -/
def execBit1E (s : State) : Host.Outcome State Fault Refusal := (s.bitR8 1 .e).completes 4

/-- `BIT 1,H` (R249). -/
def execBit1H (s : State) : Host.Outcome State Fault Refusal := (s.bitR8 1 .h).completes 4

/-- `BIT 1,L` (R249). -/
def execBit1L (s : State) : Host.Outcome State Fault Refusal := (s.bitR8 1 .l).completes 4

/-- `BIT 1,(HL)` (R249). -/
def execBit1AtHl (s : State) : Host.Outcome State Fault Refusal := (s.bitR8 1 .atHl).completes 8

/-- `BIT 1,A` (R249). -/
def execBit1A (s : State) : Host.Outcome State Fault Refusal := (s.bitR8 1 .a).completes 4

/-- `BIT 2,B` (R249). -/
def execBit2B (s : State) : Host.Outcome State Fault Refusal := (s.bitR8 2 .b).completes 4

/-- `BIT 2,C` (R249). -/
def execBit2C (s : State) : Host.Outcome State Fault Refusal := (s.bitR8 2 .c).completes 4

/-- `BIT 2,D` (R249). -/
def execBit2D (s : State) : Host.Outcome State Fault Refusal := (s.bitR8 2 .d).completes 4

/-- `BIT 2,E` (R249). -/
def execBit2E (s : State) : Host.Outcome State Fault Refusal := (s.bitR8 2 .e).completes 4

/-- `BIT 2,H` (R249). -/
def execBit2H (s : State) : Host.Outcome State Fault Refusal := (s.bitR8 2 .h).completes 4

/-- `BIT 2,L` (R249). -/
def execBit2L (s : State) : Host.Outcome State Fault Refusal := (s.bitR8 2 .l).completes 4

/-- `BIT 2,(HL)` (R249). -/
def execBit2AtHl (s : State) : Host.Outcome State Fault Refusal := (s.bitR8 2 .atHl).completes 8

/-- `BIT 2,A` (R249). -/
def execBit2A (s : State) : Host.Outcome State Fault Refusal := (s.bitR8 2 .a).completes 4

/-- `BIT 3,B` (R249). -/
def execBit3B (s : State) : Host.Outcome State Fault Refusal := (s.bitR8 3 .b).completes 4

/-- `BIT 3,C` (R249). -/
def execBit3C (s : State) : Host.Outcome State Fault Refusal := (s.bitR8 3 .c).completes 4

/-- `BIT 3,D` (R249). -/
def execBit3D (s : State) : Host.Outcome State Fault Refusal := (s.bitR8 3 .d).completes 4

/-- `BIT 3,E` (R249). -/
def execBit3E (s : State) : Host.Outcome State Fault Refusal := (s.bitR8 3 .e).completes 4

/-- `BIT 3,H` (R249). -/
def execBit3H (s : State) : Host.Outcome State Fault Refusal := (s.bitR8 3 .h).completes 4

/-- `BIT 3,L` (R249). -/
def execBit3L (s : State) : Host.Outcome State Fault Refusal := (s.bitR8 3 .l).completes 4

/-- `BIT 3,(HL)` (R249). -/
def execBit3AtHl (s : State) : Host.Outcome State Fault Refusal := (s.bitR8 3 .atHl).completes 8

/-- `BIT 3,A` (R249). -/
def execBit3A (s : State) : Host.Outcome State Fault Refusal := (s.bitR8 3 .a).completes 4

/-- `BIT 4,B` (R249). -/
def execBit4B (s : State) : Host.Outcome State Fault Refusal := (s.bitR8 4 .b).completes 4

/-- `BIT 4,C` (R249). -/
def execBit4C (s : State) : Host.Outcome State Fault Refusal := (s.bitR8 4 .c).completes 4

/-- `BIT 4,D` (R249). -/
def execBit4D (s : State) : Host.Outcome State Fault Refusal := (s.bitR8 4 .d).completes 4

/-- `BIT 4,E` (R249). -/
def execBit4E (s : State) : Host.Outcome State Fault Refusal := (s.bitR8 4 .e).completes 4

/-- `BIT 4,H` (R249). -/
def execBit4H (s : State) : Host.Outcome State Fault Refusal := (s.bitR8 4 .h).completes 4

/-- `BIT 4,L` (R249). -/
def execBit4L (s : State) : Host.Outcome State Fault Refusal := (s.bitR8 4 .l).completes 4

/-- `BIT 4,(HL)` (R249). -/
def execBit4AtHl (s : State) : Host.Outcome State Fault Refusal := (s.bitR8 4 .atHl).completes 8

/-- `BIT 4,A` (R249). -/
def execBit4A (s : State) : Host.Outcome State Fault Refusal := (s.bitR8 4 .a).completes 4

/-- `BIT 5,B` (R249). -/
def execBit5B (s : State) : Host.Outcome State Fault Refusal := (s.bitR8 5 .b).completes 4

/-- `BIT 5,C` (R249). -/
def execBit5C (s : State) : Host.Outcome State Fault Refusal := (s.bitR8 5 .c).completes 4

/-- `BIT 5,D` (R249). -/
def execBit5D (s : State) : Host.Outcome State Fault Refusal := (s.bitR8 5 .d).completes 4

/-- `BIT 5,E` (R249). -/
def execBit5E (s : State) : Host.Outcome State Fault Refusal := (s.bitR8 5 .e).completes 4

/-- `BIT 5,H` (R249). -/
def execBit5H (s : State) : Host.Outcome State Fault Refusal := (s.bitR8 5 .h).completes 4

/-- `BIT 5,L` (R249). -/
def execBit5L (s : State) : Host.Outcome State Fault Refusal := (s.bitR8 5 .l).completes 4

/-- `BIT 5,(HL)` (R249). -/
def execBit5AtHl (s : State) : Host.Outcome State Fault Refusal := (s.bitR8 5 .atHl).completes 8

/-- `BIT 5,A` (R249). -/
def execBit5A (s : State) : Host.Outcome State Fault Refusal := (s.bitR8 5 .a).completes 4

/-- `BIT 6,B` (R249). -/
def execBit6B (s : State) : Host.Outcome State Fault Refusal := (s.bitR8 6 .b).completes 4

/-- `BIT 6,C` (R249). -/
def execBit6C (s : State) : Host.Outcome State Fault Refusal := (s.bitR8 6 .c).completes 4

/-- `BIT 6,D` (R249). -/
def execBit6D (s : State) : Host.Outcome State Fault Refusal := (s.bitR8 6 .d).completes 4

/-- `BIT 6,E` (R249). -/
def execBit6E (s : State) : Host.Outcome State Fault Refusal := (s.bitR8 6 .e).completes 4

/-- `BIT 6,H` (R249). -/
def execBit6H (s : State) : Host.Outcome State Fault Refusal := (s.bitR8 6 .h).completes 4

/-- `BIT 6,L` (R249). -/
def execBit6L (s : State) : Host.Outcome State Fault Refusal := (s.bitR8 6 .l).completes 4

/-- `BIT 6,(HL)` (R249). -/
def execBit6AtHl (s : State) : Host.Outcome State Fault Refusal := (s.bitR8 6 .atHl).completes 8

/-- `BIT 6,A` (R249). -/
def execBit6A (s : State) : Host.Outcome State Fault Refusal := (s.bitR8 6 .a).completes 4

/-- `BIT 7,B` (R249). -/
def execBit7B (s : State) : Host.Outcome State Fault Refusal := (s.bitR8 7 .b).completes 4

/-- `BIT 7,C` (R249). -/
def execBit7C (s : State) : Host.Outcome State Fault Refusal := (s.bitR8 7 .c).completes 4

/-- `BIT 7,D` (R249). -/
def execBit7D (s : State) : Host.Outcome State Fault Refusal := (s.bitR8 7 .d).completes 4

/-- `BIT 7,E` (R249). -/
def execBit7E (s : State) : Host.Outcome State Fault Refusal := (s.bitR8 7 .e).completes 4

/-- `BIT 7,H` (R249). -/
def execBit7H (s : State) : Host.Outcome State Fault Refusal := (s.bitR8 7 .h).completes 4

/-- `BIT 7,L` (R249). -/
def execBit7L (s : State) : Host.Outcome State Fault Refusal := (s.bitR8 7 .l).completes 4

/-- `BIT 7,(HL)` (R249). -/
def execBit7AtHl (s : State) : Host.Outcome State Fault Refusal := (s.bitR8 7 .atHl).completes 8

/-- `BIT 7,A` (R249). -/
def execBit7A (s : State) : Host.Outcome State Fault Refusal := (s.bitR8 7 .a).completes 4

/-- `RES 0,B` (R250). -/
def execRes0B (s : State) : Host.Outcome State Fault Refusal := (s.resR8 0 .b).completes 4

/-- `RES 0,C` (R250). -/
def execRes0C (s : State) : Host.Outcome State Fault Refusal := (s.resR8 0 .c).completes 4

/-- `RES 0,D` (R250). -/
def execRes0D (s : State) : Host.Outcome State Fault Refusal := (s.resR8 0 .d).completes 4

/-- `RES 0,E` (R250). -/
def execRes0E (s : State) : Host.Outcome State Fault Refusal := (s.resR8 0 .e).completes 4

/-- `RES 0,H` (R250). -/
def execRes0H (s : State) : Host.Outcome State Fault Refusal := (s.resR8 0 .h).completes 4

/-- `RES 0,L` (R250). -/
def execRes0L (s : State) : Host.Outcome State Fault Refusal := (s.resR8 0 .l).completes 4

/-- `RES 0,(HL)` (R250). -/
def execRes0AtHl (s : State) : Host.Outcome State Fault Refusal := (s.resR8 0 .atHl).completes 12

/-- `RES 0,A` (R250). -/
def execRes0A (s : State) : Host.Outcome State Fault Refusal := (s.resR8 0 .a).completes 4

/-- `RES 1,B` (R250). -/
def execRes1B (s : State) : Host.Outcome State Fault Refusal := (s.resR8 1 .b).completes 4

/-- `RES 1,C` (R250). -/
def execRes1C (s : State) : Host.Outcome State Fault Refusal := (s.resR8 1 .c).completes 4

/-- `RES 1,D` (R250). -/
def execRes1D (s : State) : Host.Outcome State Fault Refusal := (s.resR8 1 .d).completes 4

/-- `RES 1,E` (R250). -/
def execRes1E (s : State) : Host.Outcome State Fault Refusal := (s.resR8 1 .e).completes 4

/-- `RES 1,H` (R250). -/
def execRes1H (s : State) : Host.Outcome State Fault Refusal := (s.resR8 1 .h).completes 4

/-- `RES 1,L` (R250). -/
def execRes1L (s : State) : Host.Outcome State Fault Refusal := (s.resR8 1 .l).completes 4

/-- `RES 1,(HL)` (R250). -/
def execRes1AtHl (s : State) : Host.Outcome State Fault Refusal := (s.resR8 1 .atHl).completes 12

/-- `RES 1,A` (R250). -/
def execRes1A (s : State) : Host.Outcome State Fault Refusal := (s.resR8 1 .a).completes 4

/-- `RES 2,B` (R250). -/
def execRes2B (s : State) : Host.Outcome State Fault Refusal := (s.resR8 2 .b).completes 4

/-- `RES 2,C` (R250). -/
def execRes2C (s : State) : Host.Outcome State Fault Refusal := (s.resR8 2 .c).completes 4

/-- `RES 2,D` (R250). -/
def execRes2D (s : State) : Host.Outcome State Fault Refusal := (s.resR8 2 .d).completes 4

/-- `RES 2,E` (R250). -/
def execRes2E (s : State) : Host.Outcome State Fault Refusal := (s.resR8 2 .e).completes 4

/-- `RES 2,H` (R250). -/
def execRes2H (s : State) : Host.Outcome State Fault Refusal := (s.resR8 2 .h).completes 4

/-- `RES 2,L` (R250). -/
def execRes2L (s : State) : Host.Outcome State Fault Refusal := (s.resR8 2 .l).completes 4

/-- `RES 2,(HL)` (R250). -/
def execRes2AtHl (s : State) : Host.Outcome State Fault Refusal := (s.resR8 2 .atHl).completes 12

/-- `RES 2,A` (R250). -/
def execRes2A (s : State) : Host.Outcome State Fault Refusal := (s.resR8 2 .a).completes 4

/-- `RES 3,B` (R250). -/
def execRes3B (s : State) : Host.Outcome State Fault Refusal := (s.resR8 3 .b).completes 4

/-- `RES 3,C` (R250). -/
def execRes3C (s : State) : Host.Outcome State Fault Refusal := (s.resR8 3 .c).completes 4

/-- `RES 3,D` (R250). -/
def execRes3D (s : State) : Host.Outcome State Fault Refusal := (s.resR8 3 .d).completes 4

/-- `RES 3,E` (R250). -/
def execRes3E (s : State) : Host.Outcome State Fault Refusal := (s.resR8 3 .e).completes 4

/-- `RES 3,H` (R250). -/
def execRes3H (s : State) : Host.Outcome State Fault Refusal := (s.resR8 3 .h).completes 4

/-- `RES 3,L` (R250). -/
def execRes3L (s : State) : Host.Outcome State Fault Refusal := (s.resR8 3 .l).completes 4

/-- `RES 3,(HL)` (R250). -/
def execRes3AtHl (s : State) : Host.Outcome State Fault Refusal := (s.resR8 3 .atHl).completes 12

/-- `RES 3,A` (R250). -/
def execRes3A (s : State) : Host.Outcome State Fault Refusal := (s.resR8 3 .a).completes 4

/-- `RES 4,B` (R250). -/
def execRes4B (s : State) : Host.Outcome State Fault Refusal := (s.resR8 4 .b).completes 4

/-- `RES 4,C` (R250). -/
def execRes4C (s : State) : Host.Outcome State Fault Refusal := (s.resR8 4 .c).completes 4

/-- `RES 4,D` (R250). -/
def execRes4D (s : State) : Host.Outcome State Fault Refusal := (s.resR8 4 .d).completes 4

/-- `RES 4,E` (R250). -/
def execRes4E (s : State) : Host.Outcome State Fault Refusal := (s.resR8 4 .e).completes 4

/-- `RES 4,H` (R250). -/
def execRes4H (s : State) : Host.Outcome State Fault Refusal := (s.resR8 4 .h).completes 4

/-- `RES 4,L` (R250). -/
def execRes4L (s : State) : Host.Outcome State Fault Refusal := (s.resR8 4 .l).completes 4

/-- `RES 4,(HL)` (R250). -/
def execRes4AtHl (s : State) : Host.Outcome State Fault Refusal := (s.resR8 4 .atHl).completes 12

/-- `RES 4,A` (R250). -/
def execRes4A (s : State) : Host.Outcome State Fault Refusal := (s.resR8 4 .a).completes 4

/-- `RES 5,B` (R250). -/
def execRes5B (s : State) : Host.Outcome State Fault Refusal := (s.resR8 5 .b).completes 4

/-- `RES 5,C` (R250). -/
def execRes5C (s : State) : Host.Outcome State Fault Refusal := (s.resR8 5 .c).completes 4

/-- `RES 5,D` (R250). -/
def execRes5D (s : State) : Host.Outcome State Fault Refusal := (s.resR8 5 .d).completes 4

/-- `RES 5,E` (R250). -/
def execRes5E (s : State) : Host.Outcome State Fault Refusal := (s.resR8 5 .e).completes 4

/-- `RES 5,H` (R250). -/
def execRes5H (s : State) : Host.Outcome State Fault Refusal := (s.resR8 5 .h).completes 4

/-- `RES 5,L` (R250). -/
def execRes5L (s : State) : Host.Outcome State Fault Refusal := (s.resR8 5 .l).completes 4

/-- `RES 5,(HL)` (R250). -/
def execRes5AtHl (s : State) : Host.Outcome State Fault Refusal := (s.resR8 5 .atHl).completes 12

/-- `RES 5,A` (R250). -/
def execRes5A (s : State) : Host.Outcome State Fault Refusal := (s.resR8 5 .a).completes 4

/-- `RES 6,B` (R250). -/
def execRes6B (s : State) : Host.Outcome State Fault Refusal := (s.resR8 6 .b).completes 4

/-- `RES 6,C` (R250). -/
def execRes6C (s : State) : Host.Outcome State Fault Refusal := (s.resR8 6 .c).completes 4

/-- `RES 6,D` (R250). -/
def execRes6D (s : State) : Host.Outcome State Fault Refusal := (s.resR8 6 .d).completes 4

/-- `RES 6,E` (R250). -/
def execRes6E (s : State) : Host.Outcome State Fault Refusal := (s.resR8 6 .e).completes 4

/-- `RES 6,H` (R250). -/
def execRes6H (s : State) : Host.Outcome State Fault Refusal := (s.resR8 6 .h).completes 4

/-- `RES 6,L` (R250). -/
def execRes6L (s : State) : Host.Outcome State Fault Refusal := (s.resR8 6 .l).completes 4

/-- `RES 6,(HL)` (R250). -/
def execRes6AtHl (s : State) : Host.Outcome State Fault Refusal := (s.resR8 6 .atHl).completes 12

/-- `RES 6,A` (R250). -/
def execRes6A (s : State) : Host.Outcome State Fault Refusal := (s.resR8 6 .a).completes 4

/-- `RES 7,B` (R250). -/
def execRes7B (s : State) : Host.Outcome State Fault Refusal := (s.resR8 7 .b).completes 4

/-- `RES 7,C` (R250). -/
def execRes7C (s : State) : Host.Outcome State Fault Refusal := (s.resR8 7 .c).completes 4

/-- `RES 7,D` (R250). -/
def execRes7D (s : State) : Host.Outcome State Fault Refusal := (s.resR8 7 .d).completes 4

/-- `RES 7,E` (R250). -/
def execRes7E (s : State) : Host.Outcome State Fault Refusal := (s.resR8 7 .e).completes 4

/-- `RES 7,H` (R250). -/
def execRes7H (s : State) : Host.Outcome State Fault Refusal := (s.resR8 7 .h).completes 4

/-- `RES 7,L` (R250). -/
def execRes7L (s : State) : Host.Outcome State Fault Refusal := (s.resR8 7 .l).completes 4

/-- `RES 7,(HL)` (R250). -/
def execRes7AtHl (s : State) : Host.Outcome State Fault Refusal := (s.resR8 7 .atHl).completes 12

/-- `RES 7,A` (R250). -/
def execRes7A (s : State) : Host.Outcome State Fault Refusal := (s.resR8 7 .a).completes 4

/-- `SET 0,B` (R251). -/
def execSet0B (s : State) : Host.Outcome State Fault Refusal := (s.setR8 0 .b).completes 4

/-- `SET 0,C` (R251). -/
def execSet0C (s : State) : Host.Outcome State Fault Refusal := (s.setR8 0 .c).completes 4

/-- `SET 0,D` (R251). -/
def execSet0D (s : State) : Host.Outcome State Fault Refusal := (s.setR8 0 .d).completes 4

/-- `SET 0,E` (R251). -/
def execSet0E (s : State) : Host.Outcome State Fault Refusal := (s.setR8 0 .e).completes 4

/-- `SET 0,H` (R251). -/
def execSet0H (s : State) : Host.Outcome State Fault Refusal := (s.setR8 0 .h).completes 4

/-- `SET 0,L` (R251). -/
def execSet0L (s : State) : Host.Outcome State Fault Refusal := (s.setR8 0 .l).completes 4

/-- `SET 0,(HL)` (R251). -/
def execSet0AtHl (s : State) : Host.Outcome State Fault Refusal := (s.setR8 0 .atHl).completes 12

/-- `SET 0,A` (R251). -/
def execSet0A (s : State) : Host.Outcome State Fault Refusal := (s.setR8 0 .a).completes 4

/-- `SET 1,B` (R251). -/
def execSet1B (s : State) : Host.Outcome State Fault Refusal := (s.setR8 1 .b).completes 4

/-- `SET 1,C` (R251). -/
def execSet1C (s : State) : Host.Outcome State Fault Refusal := (s.setR8 1 .c).completes 4

/-- `SET 1,D` (R251). -/
def execSet1D (s : State) : Host.Outcome State Fault Refusal := (s.setR8 1 .d).completes 4

/-- `SET 1,E` (R251). -/
def execSet1E (s : State) : Host.Outcome State Fault Refusal := (s.setR8 1 .e).completes 4

/-- `SET 1,H` (R251). -/
def execSet1H (s : State) : Host.Outcome State Fault Refusal := (s.setR8 1 .h).completes 4

/-- `SET 1,L` (R251). -/
def execSet1L (s : State) : Host.Outcome State Fault Refusal := (s.setR8 1 .l).completes 4

/-- `SET 1,(HL)` (R251). -/
def execSet1AtHl (s : State) : Host.Outcome State Fault Refusal := (s.setR8 1 .atHl).completes 12

/-- `SET 1,A` (R251). -/
def execSet1A (s : State) : Host.Outcome State Fault Refusal := (s.setR8 1 .a).completes 4

/-- `SET 2,B` (R251). -/
def execSet2B (s : State) : Host.Outcome State Fault Refusal := (s.setR8 2 .b).completes 4

/-- `SET 2,C` (R251). -/
def execSet2C (s : State) : Host.Outcome State Fault Refusal := (s.setR8 2 .c).completes 4

/-- `SET 2,D` (R251). -/
def execSet2D (s : State) : Host.Outcome State Fault Refusal := (s.setR8 2 .d).completes 4

/-- `SET 2,E` (R251). -/
def execSet2E (s : State) : Host.Outcome State Fault Refusal := (s.setR8 2 .e).completes 4

/-- `SET 2,H` (R251). -/
def execSet2H (s : State) : Host.Outcome State Fault Refusal := (s.setR8 2 .h).completes 4

/-- `SET 2,L` (R251). -/
def execSet2L (s : State) : Host.Outcome State Fault Refusal := (s.setR8 2 .l).completes 4

/-- `SET 2,(HL)` (R251). -/
def execSet2AtHl (s : State) : Host.Outcome State Fault Refusal := (s.setR8 2 .atHl).completes 12

/-- `SET 2,A` (R251). -/
def execSet2A (s : State) : Host.Outcome State Fault Refusal := (s.setR8 2 .a).completes 4

/-- `SET 3,B` (R251). -/
def execSet3B (s : State) : Host.Outcome State Fault Refusal := (s.setR8 3 .b).completes 4

/-- `SET 3,C` (R251). -/
def execSet3C (s : State) : Host.Outcome State Fault Refusal := (s.setR8 3 .c).completes 4

/-- `SET 3,D` (R251). -/
def execSet3D (s : State) : Host.Outcome State Fault Refusal := (s.setR8 3 .d).completes 4

/-- `SET 3,E` (R251). -/
def execSet3E (s : State) : Host.Outcome State Fault Refusal := (s.setR8 3 .e).completes 4

/-- `SET 3,H` (R251). -/
def execSet3H (s : State) : Host.Outcome State Fault Refusal := (s.setR8 3 .h).completes 4

/-- `SET 3,L` (R251). -/
def execSet3L (s : State) : Host.Outcome State Fault Refusal := (s.setR8 3 .l).completes 4

/-- `SET 3,(HL)` (R251). -/
def execSet3AtHl (s : State) : Host.Outcome State Fault Refusal := (s.setR8 3 .atHl).completes 12

/-- `SET 3,A` (R251). -/
def execSet3A (s : State) : Host.Outcome State Fault Refusal := (s.setR8 3 .a).completes 4

/-- `SET 4,B` (R251). -/
def execSet4B (s : State) : Host.Outcome State Fault Refusal := (s.setR8 4 .b).completes 4

/-- `SET 4,C` (R251). -/
def execSet4C (s : State) : Host.Outcome State Fault Refusal := (s.setR8 4 .c).completes 4

/-- `SET 4,D` (R251). -/
def execSet4D (s : State) : Host.Outcome State Fault Refusal := (s.setR8 4 .d).completes 4

/-- `SET 4,E` (R251). -/
def execSet4E (s : State) : Host.Outcome State Fault Refusal := (s.setR8 4 .e).completes 4

/-- `SET 4,H` (R251). -/
def execSet4H (s : State) : Host.Outcome State Fault Refusal := (s.setR8 4 .h).completes 4

/-- `SET 4,L` (R251). -/
def execSet4L (s : State) : Host.Outcome State Fault Refusal := (s.setR8 4 .l).completes 4

/-- `SET 4,(HL)` (R251). -/
def execSet4AtHl (s : State) : Host.Outcome State Fault Refusal := (s.setR8 4 .atHl).completes 12

/-- `SET 4,A` (R251). -/
def execSet4A (s : State) : Host.Outcome State Fault Refusal := (s.setR8 4 .a).completes 4

/-- `SET 5,B` (R251). -/
def execSet5B (s : State) : Host.Outcome State Fault Refusal := (s.setR8 5 .b).completes 4

/-- `SET 5,C` (R251). -/
def execSet5C (s : State) : Host.Outcome State Fault Refusal := (s.setR8 5 .c).completes 4

/-- `SET 5,D` (R251). -/
def execSet5D (s : State) : Host.Outcome State Fault Refusal := (s.setR8 5 .d).completes 4

/-- `SET 5,E` (R251). -/
def execSet5E (s : State) : Host.Outcome State Fault Refusal := (s.setR8 5 .e).completes 4

/-- `SET 5,H` (R251). -/
def execSet5H (s : State) : Host.Outcome State Fault Refusal := (s.setR8 5 .h).completes 4

/-- `SET 5,L` (R251). -/
def execSet5L (s : State) : Host.Outcome State Fault Refusal := (s.setR8 5 .l).completes 4

/-- `SET 5,(HL)` (R251). -/
def execSet5AtHl (s : State) : Host.Outcome State Fault Refusal := (s.setR8 5 .atHl).completes 12

/-- `SET 5,A` (R251). -/
def execSet5A (s : State) : Host.Outcome State Fault Refusal := (s.setR8 5 .a).completes 4

/-- `SET 6,B` (R251). -/
def execSet6B (s : State) : Host.Outcome State Fault Refusal := (s.setR8 6 .b).completes 4

/-- `SET 6,C` (R251). -/
def execSet6C (s : State) : Host.Outcome State Fault Refusal := (s.setR8 6 .c).completes 4

/-- `SET 6,D` (R251). -/
def execSet6D (s : State) : Host.Outcome State Fault Refusal := (s.setR8 6 .d).completes 4

/-- `SET 6,E` (R251). -/
def execSet6E (s : State) : Host.Outcome State Fault Refusal := (s.setR8 6 .e).completes 4

/-- `SET 6,H` (R251). -/
def execSet6H (s : State) : Host.Outcome State Fault Refusal := (s.setR8 6 .h).completes 4

/-- `SET 6,L` (R251). -/
def execSet6L (s : State) : Host.Outcome State Fault Refusal := (s.setR8 6 .l).completes 4

/-- `SET 6,(HL)` (R251). -/
def execSet6AtHl (s : State) : Host.Outcome State Fault Refusal := (s.setR8 6 .atHl).completes 12

/-- `SET 6,A` (R251). -/
def execSet6A (s : State) : Host.Outcome State Fault Refusal := (s.setR8 6 .a).completes 4

/-- `SET 7,B` (R251). -/
def execSet7B (s : State) : Host.Outcome State Fault Refusal := (s.setR8 7 .b).completes 4

/-- `SET 7,C` (R251). -/
def execSet7C (s : State) : Host.Outcome State Fault Refusal := (s.setR8 7 .c).completes 4

/-- `SET 7,D` (R251). -/
def execSet7D (s : State) : Host.Outcome State Fault Refusal := (s.setR8 7 .d).completes 4

/-- `SET 7,E` (R251). -/
def execSet7E (s : State) : Host.Outcome State Fault Refusal := (s.setR8 7 .e).completes 4

/-- `SET 7,H` (R251). -/
def execSet7H (s : State) : Host.Outcome State Fault Refusal := (s.setR8 7 .h).completes 4

/-- `SET 7,L` (R251). -/
def execSet7L (s : State) : Host.Outcome State Fault Refusal := (s.setR8 7 .l).completes 4

/-- `SET 7,(HL)` (R251). -/
def execSet7AtHl (s : State) : Host.Outcome State Fault Refusal := (s.setR8 7 .atHl).completes 12

/-- `SET 7,A` (R251). -/
def execSet7A (s : State) : Host.Outcome State Fault Refusal := (s.setR8 7 .a).completes 4

end Sys2Proof.Machine
end

