-- ==== Sys2Proof/Machine/Stack.lean ====
section
/-! DEFINITION. Calls, returns and the stack (46_stack.md R210–R218). -/

namespace Sys2Proof.Machine

/-- `Push(PC); PC <- a` (R210, R215). -/
def State.callTo (s : State) (a : Word) : State := { s.push s.pc with pc := a }

/-- `PC <- Pop()` (R212). -/
def State.returnPop (s : State) : State := { s.afterPop with pc := s.popped }

/-- `PC <- Pop(); IME <- 1` (R214). -/
def State.returnSetIme (s : State) : State := { s.returnPop with ime := true }

/-- The target of `RST`: `zext_16(y * 8)` (R215). -/
def rstTarget (y : Fin 8) : Word := BitVec.ofNat 16 (y.val * 8)

/-- `Push(rp2[p])` (R216). -/
def State.pushRp2 (s : State) (p : Rp2) : State := s.push (s.readRp2 p)

/-- `v <- Pop(); rp2[p] <- v` (R217). -/
def State.popRp2 (s : State) (p : Rp2) : State := s.afterPop.writeRp2 p s.popped

/-! ## One meaning per instruction -/

/-- `RET NZ` (R213). -/
def execRetNz (s : State) : Host.Outcome State Fault Refusal := s.conditional .nz s.returnPop 20 8

/-- `POP BC` (R217). -/
def execPopBc (s : State) : Host.Outcome State Fault Refusal := (s.popRp2 .bc).completes 12

/-- `CALL NZ,a16` (R211). -/
def execCallNzA16 (a : Word) (s : State) : Host.Outcome State Fault Refusal := s.conditional .nz (s.callTo a) 24 12

/-- `PUSH BC` (R216). -/
def execPushBc (s : State) : Host.Outcome State Fault Refusal := (s.pushRp2 .bc).completes 16

/-- `RST 0x00` (R215). -/
def execRst00 (s : State) : Host.Outcome State Fault Refusal := (s.callTo (rstTarget 0)).completes 16

/-- `RET Z` (R213). -/
def execRetZ (s : State) : Host.Outcome State Fault Refusal := s.conditional .z s.returnPop 20 8

/-- `RET` (R212). -/
def execRet (s : State) : Host.Outcome State Fault Refusal := s.returnPop.completes 16

/-- `CALL Z,a16` (R211). -/
def execCallZA16 (a : Word) (s : State) : Host.Outcome State Fault Refusal := s.conditional .z (s.callTo a) 24 12

/-- `CALL a16` (R210). -/
def execCallA16 (a : Word) (s : State) : Host.Outcome State Fault Refusal := (s.callTo a).completes 24

/-- `RST 0x08` (R215). -/
def execRst08 (s : State) : Host.Outcome State Fault Refusal := (s.callTo (rstTarget 1)).completes 16

/-- `RET NC` (R213). -/
def execRetNc (s : State) : Host.Outcome State Fault Refusal := s.conditional .nc s.returnPop 20 8

/-- `POP DE` (R217). -/
def execPopDe (s : State) : Host.Outcome State Fault Refusal := (s.popRp2 .de).completes 12

/-- `CALL NC,a16` (R211). -/
def execCallNcA16 (a : Word) (s : State) : Host.Outcome State Fault Refusal := s.conditional .nc (s.callTo a) 24 12

/-- `PUSH DE` (R216). -/
def execPushDe (s : State) : Host.Outcome State Fault Refusal := (s.pushRp2 .de).completes 16

/-- `RST 0x10` (R215). -/
def execRst10 (s : State) : Host.Outcome State Fault Refusal := (s.callTo (rstTarget 2)).completes 16

/-- `RET C` (R213). -/
def execRetC (s : State) : Host.Outcome State Fault Refusal := s.conditional .c s.returnPop 20 8

/-- `RETI` (R214). -/
def execReti (s : State) : Host.Outcome State Fault Refusal := s.returnSetIme.completes 16

/-- `CALL C,a16` (R211). -/
def execCallCA16 (a : Word) (s : State) : Host.Outcome State Fault Refusal := s.conditional .c (s.callTo a) 24 12

/-- `RST 0x18` (R215). -/
def execRst18 (s : State) : Host.Outcome State Fault Refusal := (s.callTo (rstTarget 3)).completes 16

/-- `POP HL` (R217). -/
def execPopHl (s : State) : Host.Outcome State Fault Refusal := (s.popRp2 .hl).completes 12

/-- `PUSH HL` (R216). -/
def execPushHl (s : State) : Host.Outcome State Fault Refusal := (s.pushRp2 .hl).completes 16

/-- `RST 0x20` (R215). -/
def execRst20 (s : State) : Host.Outcome State Fault Refusal := (s.callTo (rstTarget 4)).completes 16

/-- `RST 0x28` (R215). -/
def execRst28 (s : State) : Host.Outcome State Fault Refusal := (s.callTo (rstTarget 5)).completes 16

/-- `POP AF` (R217). -/
def execPopAf (s : State) : Host.Outcome State Fault Refusal := (s.popRp2 .af).completes 12

/-- `PUSH AF` (R216). -/
def execPushAf (s : State) : Host.Outcome State Fault Refusal := (s.pushRp2 .af).completes 16

/-- `RST 0x30` (R215). -/
def execRst30 (s : State) : Host.Outcome State Fault Refusal := (s.callTo (rstTarget 6)).completes 16

/-- `RST 0x38` (R215). -/
def execRst38 (s : State) : Host.Outcome State Fault Refusal := (s.callTo (rstTarget 7)).completes 16

end Sys2Proof.Machine
end

