-- ==== Sys2Proof/Decode.lean ====
section
/-! DEFINITION. The decoder, from the fields of an opcode byte (30_encoding.md R81, R89–R93), total on any bytes; then
the rule forms, the opcode table row of every instruction (R100) and the encoder; then the reading of the words of
spec/opcode_table.json. -/

namespace Sys2Proof

/-! ## Fields and operand tables (R81, R84–R88) -/

/-- `x = b[7:6]` (R81). -/
def fieldX (b : Byte) : Fin 4 := ⟨b.toNat / 64, by have := b.isLt; omega⟩

/-- `y = b[5:3]` (R81). -/
def fieldY (b : Byte) : Fin 8 := ⟨b.toNat / 8 % 8, by omega⟩

/-- `z = b[2:0]` (R81). -/
def fieldZ (b : Byte) : Fin 8 := ⟨b.toNat % 8, by omega⟩

/-- `p = b[5:4]` (R81). -/
def fieldP (b : Byte) : Fin 4 := ⟨b.toNat / 16 % 4, by omega⟩

/-- `q = b[3]` (R81). -/
def fieldQ (b : Byte) : Fin 2 := ⟨b.toNat / 8 % 2, by omega⟩

/-- The 8-bit operand table (R84). -/
def R8.ofField : Fin 8 → R8
  | 0 => .b  | 1 => .c  | 2 => .d  | 3 => .e  | 4 => .h  | 5 => .l  | 6 => .atHl  | 7 => .a

/-- The pair table of `LD rr,d16`, `INC rr`, `DEC rr` and `ADD HL,rr` (R85). -/
def Rp.ofField : Fin 4 → Rp
  | 0 => .bc  | 1 => .de  | 2 => .hl  | 3 => .sp

/-- The pair table of `PUSH` and `POP` (R86). -/
def Rp2.ofField : Fin 4 → Rp2
  | 0 => .bc  | 1 => .de  | 2 => .hl  | 3 => .af

/-- The ALU operation table (R88). -/
def AluOp.ofField : Fin 8 → AluOp
  | 0 => .add  | 1 => .adc  | 2 => .sub  | 3 => .sbc  | 4 => .and  | 5 => .xor  | 6 => .or  | 7 => .cp

/-- The rotate and shift operation table (R88). -/
def RotOp.ofField : Fin 8 → RotOp
  | 0 => .rlc  | 1 => .rrc  | 2 => .rl  | 3 => .rr  | 4 => .sla  | 5 => .sra  | 6 => .swap  | 7 => .srl

/-! ## The instruction with given operands -/

/-- `LD r8[y],r8[z]`; the slot with both operands `(HL)` is HALT (R90). -/
def Instr.ofLd : R8 → R8 → Instr
  | .b, .b => .ldBB  | .b, .c => .ldBC  | .b, .d => .ldBD  | .b, .e => .ldBE  | .b, .h => .ldBH
  | .b, .l => .ldBL  | .b, .atHl => .ldBAtHl  | .b, .a => .ldBA  | .c, .b => .ldCB  | .c, .c => .ldCC
  | .c, .d => .ldCD  | .c, .e => .ldCE  | .c, .h => .ldCH  | .c, .l => .ldCL  | .c, .atHl => .ldCAtHl
  | .c, .a => .ldCA  | .d, .b => .ldDB  | .d, .c => .ldDC  | .d, .d => .ldDD  | .d, .e => .ldDE
  | .d, .h => .ldDH  | .d, .l => .ldDL  | .d, .atHl => .ldDAtHl  | .d, .a => .ldDA  | .e, .b => .ldEB
  | .e, .c => .ldEC  | .e, .d => .ldED  | .e, .e => .ldEE  | .e, .h => .ldEH  | .e, .l => .ldEL
  | .e, .atHl => .ldEAtHl  | .e, .a => .ldEA  | .h, .b => .ldHB  | .h, .c => .ldHC  | .h, .d => .ldHD
  | .h, .e => .ldHE  | .h, .h => .ldHH  | .h, .l => .ldHL  | .h, .atHl => .ldHAtHl  | .h, .a => .ldHA
  | .l, .b => .ldLB  | .l, .c => .ldLC  | .l, .d => .ldLD  | .l, .e => .ldLE  | .l, .h => .ldLH
  | .l, .l => .ldLL  | .l, .atHl => .ldLAtHl  | .l, .a => .ldLA  | .atHl, .b => .ldAtHlB
  | .atHl, .c => .ldAtHlC  | .atHl, .d => .ldAtHlD  | .atHl, .e => .ldAtHlE  | .atHl, .h => .ldAtHlH
  | .atHl, .l => .ldAtHlL  | .atHl, .atHl => .halt  | .atHl, .a => .ldAtHlA  | .a, .b => .ldAB
  | .a, .c => .ldAC  | .a, .d => .ldAD  | .a, .e => .ldAE  | .a, .h => .ldAH  | .a, .l => .ldAL
  | .a, .atHl => .ldAAtHl  | .a, .a => .ldAA

/-- `LD r8[y],d8` (R134, R135). -/
def Instr.ofLdImm : R8 → Byte → Instr
  | .b, n => .ldBD8 n  | .c, n => .ldCD8 n  | .d, n => .ldDD8 n  | .e, n => .ldED8 n  | .h, n => .ldHD8 n
  | .l, n => .ldLD8 n  | .atHl, n => .ldAtHlD8 n  | .a, n => .ldAD8 n

/-- `INC r8[y]` (R160, R162). -/
def Instr.ofInc : R8 → Instr
  | .b => .incB  | .c => .incC  | .d => .incD  | .e => .incE  | .h => .incH  | .l => .incL
  | .atHl => .incAtHl  | .a => .incA

/-- `DEC r8[y]` (R161, R163). -/
def Instr.ofDec : R8 → Instr
  | .b => .decB  | .c => .decC  | .d => .decD  | .e => .decE  | .h => .decH  | .l => .decL
  | .atHl => .decAtHl  | .a => .decA

/-- `LD rp[p],d16` (R151). -/
def Instr.ofLdRp : Rp → Word → Instr
  | .bc, v => .ldBcD16 v  | .de, v => .ldDeD16 v  | .hl, v => .ldHlD16 v  | .sp, v => .ldSpD16 v

/-- `INC rp[p]` (R164). -/
def Instr.ofIncRp : Rp → Instr
  | .bc => .incBc  | .de => .incDe  | .hl => .incHl  | .sp => .incSp

/-- `DEC rp[p]` (R165). -/
def Instr.ofDecRp : Rp → Instr
  | .bc => .decBc  | .de => .decDe  | .hl => .decHl  | .sp => .decSp

/-- `ADD HL,rp[p]` (R178). -/
def Instr.ofAddHl : Rp → Instr
  | .bc => .addHlBc  | .de => .addHlDe  | .hl => .addHlHl  | .sp => .addHlSp

/-- `alu[y] A,r8[z]` (R91, R184). -/
def Instr.ofAlu : AluOp → R8 → Instr
  | .add, .b => .addAB  | .add, .c => .addAC  | .add, .d => .addAD  | .add, .e => .addAE  | .add, .h => .addAH
  | .add, .l => .addAL  | .add, .atHl => .addAAtHl  | .add, .a => .addAA  | .adc, .b => .adcAB
  | .adc, .c => .adcAC  | .adc, .d => .adcAD  | .adc, .e => .adcAE  | .adc, .h => .adcAH  | .adc, .l => .adcAL
  | .adc, .atHl => .adcAAtHl  | .adc, .a => .adcAA  | .sub, .b => .subAB  | .sub, .c => .subAC
  | .sub, .d => .subAD  | .sub, .e => .subAE  | .sub, .h => .subAH  | .sub, .l => .subAL
  | .sub, .atHl => .subAAtHl  | .sub, .a => .subAA  | .sbc, .b => .sbcAB  | .sbc, .c => .sbcAC
  | .sbc, .d => .sbcAD  | .sbc, .e => .sbcAE  | .sbc, .h => .sbcAH  | .sbc, .l => .sbcAL
  | .sbc, .atHl => .sbcAAtHl  | .sbc, .a => .sbcAA  | .and, .b => .andAB  | .and, .c => .andAC
  | .and, .d => .andAD  | .and, .e => .andAE  | .and, .h => .andAH  | .and, .l => .andAL
  | .and, .atHl => .andAAtHl  | .and, .a => .andAA  | .xor, .b => .xorAB  | .xor, .c => .xorAC
  | .xor, .d => .xorAD  | .xor, .e => .xorAE  | .xor, .h => .xorAH  | .xor, .l => .xorAL
  | .xor, .atHl => .xorAAtHl  | .xor, .a => .xorAA  | .or, .b => .orAB  | .or, .c => .orAC  | .or, .d => .orAD
  | .or, .e => .orAE  | .or, .h => .orAH  | .or, .l => .orAL  | .or, .atHl => .orAAtHl  | .or, .a => .orAA
  | .cp, .b => .cpAB  | .cp, .c => .cpAC  | .cp, .d => .cpAD  | .cp, .e => .cpAE  | .cp, .h => .cpAH
  | .cp, .l => .cpAL  | .cp, .atHl => .cpAAtHl  | .cp, .a => .cpAA

/-- `alu[y] A,d8` (R92, R184). -/
def Instr.ofAluImm : AluOp → Byte → Instr
  | .add, n => .addAD8 n  | .adc, n => .adcAD8 n  | .sub, n => .subAD8 n  | .sbc, n => .sbcAD8 n
  | .and, n => .andAD8 n  | .xor, n => .xorAD8 n  | .or, n => .orAD8 n  | .cp, n => .cpAD8 n

/-- `JR cc,e8` (R201). -/
def Instr.ofJr : Cc → Byte → Instr
  | .nz, e => .jrNzE8 e  | .z, e => .jrZE8 e  | .nc, e => .jrNcE8 e  | .c, e => .jrCE8 e

/-- `JP cc,a16` (R204). -/
def Instr.ofJp : Cc → Word → Instr
  | .nz, a => .jpNzA16 a  | .z, a => .jpZA16 a  | .nc, a => .jpNcA16 a  | .c, a => .jpCA16 a

/-- `CALL cc,a16` (R211). -/
def Instr.ofCall : Cc → Word → Instr
  | .nz, a => .callNzA16 a  | .z, a => .callZA16 a  | .nc, a => .callNcA16 a  | .c, a => .callCA16 a

/-- `RET cc` (R213). -/
def Instr.ofRet : Cc → Instr
  | .nz => .retNz  | .z => .retZ  | .nc => .retNc  | .c => .retC

/-- `RST y*8` (R215). -/
def Instr.ofRst : Fin 8 → Instr
  | 0 => .rst00  | 1 => .rst08  | 2 => .rst10  | 3 => .rst18  | 4 => .rst20  | 5 => .rst28  | 6 => .rst30
  | 7 => .rst38

/-- `PUSH rp2[p]` (R216). -/
def Instr.ofPush : Rp2 → Instr
  | .bc => .pushBc  | .de => .pushDe  | .hl => .pushHl  | .af => .pushAf

/-- `POP rp2[p]` (R217). -/
def Instr.ofPop : Rp2 → Instr
  | .bc => .popBc  | .de => .popDe  | .hl => .popHl  | .af => .popAf

/-- `rot[y] r8[z]` (R241–R248). -/
def Instr.ofRot : RotOp → R8 → Instr
  | .rlc, .b => .rlcB  | .rlc, .c => .rlcC  | .rlc, .d => .rlcD  | .rlc, .e => .rlcE  | .rlc, .h => .rlcH
  | .rlc, .l => .rlcL  | .rlc, .atHl => .rlcAtHl  | .rlc, .a => .rlcA  | .rrc, .b => .rrcB
  | .rrc, .c => .rrcC  | .rrc, .d => .rrcD  | .rrc, .e => .rrcE  | .rrc, .h => .rrcH  | .rrc, .l => .rrcL
  | .rrc, .atHl => .rrcAtHl  | .rrc, .a => .rrcA  | .rl, .b => .rlB  | .rl, .c => .rlC  | .rl, .d => .rlD
  | .rl, .e => .rlE  | .rl, .h => .rlH  | .rl, .l => .rlL  | .rl, .atHl => .rlAtHl  | .rl, .a => .rlA
  | .rr, .b => .rrB  | .rr, .c => .rrC  | .rr, .d => .rrD  | .rr, .e => .rrE  | .rr, .h => .rrH
  | .rr, .l => .rrL  | .rr, .atHl => .rrAtHl  | .rr, .a => .rrA  | .sla, .b => .slaB  | .sla, .c => .slaC
  | .sla, .d => .slaD  | .sla, .e => .slaE  | .sla, .h => .slaH  | .sla, .l => .slaL
  | .sla, .atHl => .slaAtHl  | .sla, .a => .slaA  | .sra, .b => .sraB  | .sra, .c => .sraC
  | .sra, .d => .sraD  | .sra, .e => .sraE  | .sra, .h => .sraH  | .sra, .l => .sraL
  | .sra, .atHl => .sraAtHl  | .sra, .a => .sraA  | .swap, .b => .swapB  | .swap, .c => .swapC
  | .swap, .d => .swapD  | .swap, .e => .swapE  | .swap, .h => .swapH  | .swap, .l => .swapL
  | .swap, .atHl => .swapAtHl  | .swap, .a => .swapA  | .srl, .b => .srlB  | .srl, .c => .srlC
  | .srl, .d => .srlD  | .srl, .e => .srlE  | .srl, .h => .srlH  | .srl, .l => .srlL
  | .srl, .atHl => .srlAtHl  | .srl, .a => .srlA

/-- `BIT y,r8[z]` (R249). -/
def Instr.ofBit : Fin 8 → R8 → Instr
  | 0, .b => .bit0B  | 0, .c => .bit0C  | 0, .d => .bit0D  | 0, .e => .bit0E  | 0, .h => .bit0H
  | 0, .l => .bit0L  | 0, .atHl => .bit0AtHl  | 0, .a => .bit0A  | 1, .b => .bit1B  | 1, .c => .bit1C
  | 1, .d => .bit1D  | 1, .e => .bit1E  | 1, .h => .bit1H  | 1, .l => .bit1L  | 1, .atHl => .bit1AtHl
  | 1, .a => .bit1A  | 2, .b => .bit2B  | 2, .c => .bit2C  | 2, .d => .bit2D  | 2, .e => .bit2E
  | 2, .h => .bit2H  | 2, .l => .bit2L  | 2, .atHl => .bit2AtHl  | 2, .a => .bit2A  | 3, .b => .bit3B
  | 3, .c => .bit3C  | 3, .d => .bit3D  | 3, .e => .bit3E  | 3, .h => .bit3H  | 3, .l => .bit3L
  | 3, .atHl => .bit3AtHl  | 3, .a => .bit3A  | 4, .b => .bit4B  | 4, .c => .bit4C  | 4, .d => .bit4D
  | 4, .e => .bit4E  | 4, .h => .bit4H  | 4, .l => .bit4L  | 4, .atHl => .bit4AtHl  | 4, .a => .bit4A
  | 5, .b => .bit5B  | 5, .c => .bit5C  | 5, .d => .bit5D  | 5, .e => .bit5E  | 5, .h => .bit5H
  | 5, .l => .bit5L  | 5, .atHl => .bit5AtHl  | 5, .a => .bit5A  | 6, .b => .bit6B  | 6, .c => .bit6C
  | 6, .d => .bit6D  | 6, .e => .bit6E  | 6, .h => .bit6H  | 6, .l => .bit6L  | 6, .atHl => .bit6AtHl
  | 6, .a => .bit6A  | 7, .b => .bit7B  | 7, .c => .bit7C  | 7, .d => .bit7D  | 7, .e => .bit7E
  | 7, .h => .bit7H  | 7, .l => .bit7L  | 7, .atHl => .bit7AtHl  | 7, .a => .bit7A

/-- `RES y,r8[z]` (R250). -/
def Instr.ofRes : Fin 8 → R8 → Instr
  | 0, .b => .res0B  | 0, .c => .res0C  | 0, .d => .res0D  | 0, .e => .res0E  | 0, .h => .res0H
  | 0, .l => .res0L  | 0, .atHl => .res0AtHl  | 0, .a => .res0A  | 1, .b => .res1B  | 1, .c => .res1C
  | 1, .d => .res1D  | 1, .e => .res1E  | 1, .h => .res1H  | 1, .l => .res1L  | 1, .atHl => .res1AtHl
  | 1, .a => .res1A  | 2, .b => .res2B  | 2, .c => .res2C  | 2, .d => .res2D  | 2, .e => .res2E
  | 2, .h => .res2H  | 2, .l => .res2L  | 2, .atHl => .res2AtHl  | 2, .a => .res2A  | 3, .b => .res3B
  | 3, .c => .res3C  | 3, .d => .res3D  | 3, .e => .res3E  | 3, .h => .res3H  | 3, .l => .res3L
  | 3, .atHl => .res3AtHl  | 3, .a => .res3A  | 4, .b => .res4B  | 4, .c => .res4C  | 4, .d => .res4D
  | 4, .e => .res4E  | 4, .h => .res4H  | 4, .l => .res4L  | 4, .atHl => .res4AtHl  | 4, .a => .res4A
  | 5, .b => .res5B  | 5, .c => .res5C  | 5, .d => .res5D  | 5, .e => .res5E  | 5, .h => .res5H
  | 5, .l => .res5L  | 5, .atHl => .res5AtHl  | 5, .a => .res5A  | 6, .b => .res6B  | 6, .c => .res6C
  | 6, .d => .res6D  | 6, .e => .res6E  | 6, .h => .res6H  | 6, .l => .res6L  | 6, .atHl => .res6AtHl
  | 6, .a => .res6A  | 7, .b => .res7B  | 7, .c => .res7C  | 7, .d => .res7D  | 7, .e => .res7E
  | 7, .h => .res7H  | 7, .l => .res7L  | 7, .atHl => .res7AtHl  | 7, .a => .res7A

/-- `SET y,r8[z]` (R251). -/
def Instr.ofSet : Fin 8 → R8 → Instr
  | 0, .b => .set0B  | 0, .c => .set0C  | 0, .d => .set0D  | 0, .e => .set0E  | 0, .h => .set0H
  | 0, .l => .set0L  | 0, .atHl => .set0AtHl  | 0, .a => .set0A  | 1, .b => .set1B  | 1, .c => .set1C
  | 1, .d => .set1D  | 1, .e => .set1E  | 1, .h => .set1H  | 1, .l => .set1L  | 1, .atHl => .set1AtHl
  | 1, .a => .set1A  | 2, .b => .set2B  | 2, .c => .set2C  | 2, .d => .set2D  | 2, .e => .set2E
  | 2, .h => .set2H  | 2, .l => .set2L  | 2, .atHl => .set2AtHl  | 2, .a => .set2A  | 3, .b => .set3B
  | 3, .c => .set3C  | 3, .d => .set3D  | 3, .e => .set3E  | 3, .h => .set3H  | 3, .l => .set3L
  | 3, .atHl => .set3AtHl  | 3, .a => .set3A  | 4, .b => .set4B  | 4, .c => .set4C  | 4, .d => .set4D
  | 4, .e => .set4E  | 4, .h => .set4H  | 4, .l => .set4L  | 4, .atHl => .set4AtHl  | 4, .a => .set4A
  | 5, .b => .set5B  | 5, .c => .set5C  | 5, .d => .set5D  | 5, .e => .set5E  | 5, .h => .set5H
  | 5, .l => .set5L  | 5, .atHl => .set5AtHl  | 5, .a => .set5A  | 6, .b => .set6B  | 6, .c => .set6C
  | 6, .d => .set6D  | 6, .e => .set6E  | 6, .h => .set6H  | 6, .l => .set6L  | 6, .atHl => .set6AtHl
  | 6, .a => .set6A  | 7, .b => .set7B  | 7, .c => .set7C  | 7, .d => .set7D  | 7, .e => .set7E
  | 7, .h => .set7H  | 7, .l => .set7L  | 7, .atHl => .set7AtHl  | 7, .a => .set7A

/-! ## The decode function (R96) -/

/-- What the opcode byte says: an instruction, or one that waits for an 8-bit or a 16-bit immediate (R80, R82). -/
inductive Entry where
  | plain (i : Instr)
  | imm8 (mk : Byte → Instr)
  | imm16 (mk : Word → Instr)

/-- Primary space, x = 0 (R89). -/
def entryX0 (b : Byte) : Entry :=
  match fieldZ b with
  | 0 =>
    match fieldY b with
    | 0 => .plain .nop
    | 1 => .imm16 .ldAtA16Sp
    | 2 => .imm8 .stop
    | 3 => .imm8 .jrE8
    | 4 => .imm8 (Instr.ofJr .nz)
    | 5 => .imm8 (Instr.ofJr .z)
    | 6 => .imm8 (Instr.ofJr .nc)
    | 7 => .imm8 (Instr.ofJr .c)
  | 1 =>
    match fieldQ b with
    | 0 => .imm16 (Instr.ofLdRp (Rp.ofField (fieldP b)))
    | 1 => .plain (Instr.ofAddHl (Rp.ofField (fieldP b)))
  | 2 =>
    match fieldQ b, fieldP b with
    | 0, 0 => .plain .ldAtBcA
    | 0, 1 => .plain .ldAtDeA
    | 0, 2 => .plain .ldAtHliA
    | 0, 3 => .plain .ldAtHldA
    | 1, 0 => .plain .ldAAtBc
    | 1, 1 => .plain .ldAAtDe
    | 1, 2 => .plain .ldAAtHli
    | 1, 3 => .plain .ldAAtHld
  | 3 =>
    match fieldQ b with
    | 0 => .plain (Instr.ofIncRp (Rp.ofField (fieldP b)))
    | 1 => .plain (Instr.ofDecRp (Rp.ofField (fieldP b)))
  | 4 => .plain (Instr.ofInc (R8.ofField (fieldY b)))
  | 5 => .plain (Instr.ofDec (R8.ofField (fieldY b)))
  | 6 => .imm8 (Instr.ofLdImm (R8.ofField (fieldY b)))
  | 7 =>
    match fieldY b with
    | 0 => .plain .rlca
    | 1 => .plain .rrca
    | 2 => .plain .rla
    | 3 => .plain .rra
    | 4 => .plain .daa
    | 5 => .plain .cpl
    | 6 => .plain .scf
    | 7 => .plain .ccf

/-- Primary space, x = 3 (R92); `none` for the eleven illegal bytes (R94). -/
def entryX3 (b : Byte) : Option Entry :=
  match fieldZ b with
  | 0 =>
    match fieldY b with
    | 0 => some (.plain (Instr.ofRet .nz))
    | 1 => some (.plain (Instr.ofRet .z))
    | 2 => some (.plain (Instr.ofRet .nc))
    | 3 => some (.plain (Instr.ofRet .c))
    | 4 => some (.imm8 .ldhAtA8A)
    | 5 => some (.imm8 .addSpE8)
    | 6 => some (.imm8 .ldhAAtA8)
    | 7 => some (.imm8 .ldHlSpE8)
  | 1 =>
    match fieldQ b with
    | 0 => some (.plain (Instr.ofPop (Rp2.ofField (fieldP b))))
    | 1 =>
      match fieldP b with
      | 0 => some (.plain .ret)
      | 1 => some (.plain .reti)
      | 2 => some (.plain .jpHl)
      | 3 => some (.plain .ldSpHl)
  | 2 =>
    match fieldY b with
    | 0 => some (.imm16 (Instr.ofJp .nz))
    | 1 => some (.imm16 (Instr.ofJp .z))
    | 2 => some (.imm16 (Instr.ofJp .nc))
    | 3 => some (.imm16 (Instr.ofJp .c))
    | 4 => some (.plain .ldAtCA)
    | 5 => some (.imm16 .ldAtA16A)
    | 6 => some (.plain .ldAAtC)
    | 7 => some (.imm16 .ldAAtA16)
  | 3 =>
    match fieldY b with
    | 0 => some (.imm16 .jpA16)
    | 1 => some (.plain .prefixCb)
    | 2 => none
    | 3 => none
    | 4 => none
    | 5 => none
    | 6 => some (.plain .di)
    | 7 => some (.plain .ei)
  | 4 =>
    match fieldY b with
    | 0 => some (.imm16 (Instr.ofCall .nz))
    | 1 => some (.imm16 (Instr.ofCall .z))
    | 2 => some (.imm16 (Instr.ofCall .nc))
    | 3 => some (.imm16 (Instr.ofCall .c))
    | 4 => none
    | 5 => none
    | 6 => none
    | 7 => none
  | 5 =>
    match fieldQ b with
    | 0 => some (.plain (Instr.ofPush (Rp2.ofField (fieldP b))))
    | 1 =>
      match fieldP b with
      | 0 => some (.imm16 .callA16)
      | 1 => none
      | 2 => none
      | 3 => none
  | 6 => some (.imm8 (Instr.ofAluImm (AluOp.ofField (fieldY b))))
  | 7 => some (.plain (Instr.ofRst (fieldY b)))

/-- Primary space (R89–R92). -/
def entryPrimary (b : Byte) : Option Entry :=
  match fieldX b with
  | 0 => some (entryX0 b)
  | 1 => some (.plain (Instr.ofLd (R8.ofField (fieldY b)) (R8.ofField (fieldZ b))))
  | 2 => some (.plain (Instr.ofAlu (AluOp.ofField (fieldY b)) (R8.ofField (fieldZ b))))
  | 3 => entryX3 b

/-- Secondary space (R93): every byte is an instruction. -/
def secondaryInstr (b : Byte) : Instr :=
  match fieldX b with
  | 0 => Instr.ofRot (RotOp.ofField (fieldY b)) (R8.ofField (fieldZ b))
  | 1 => Instr.ofBit (fieldY b) (R8.ofField (fieldZ b))
  | 2 => Instr.ofRes (fieldY b) (R8.ofField (fieldZ b))
  | 3 => Instr.ofSet (fieldY b) (R8.ofField (fieldZ b))

/-- The opcode table of both spaces (R89–R94), before `MAPPED`. -/
def entry : Space → Byte → Option Entry
  | .primary, b => entryPrimary b
  | .secondary, b => some (.plain (secondaryInstr b))

/-- `decode(is_secondary, b)` (R96): the row, if it exists and `MAPPED` holds. -/
def lookup (p : Params) (sp : Space) (b : Byte) : Option Entry :=
  if p.mapped sp b then entry sp b else none

/-- Why bytes are no instruction. -/
inductive Reject where
  /-- The bytes end before the instruction does. -/
  | truncated
  /-- The byte has no entry in the space (R94). -/
  | noEntry (sp : Space) (b : Byte)
  deriving DecidableEq, Repr

/-- The first instruction of a byte list in a space, with the bytes that follow it. Immediates come low byte first
(R82, R83). -/
def decode (sp : Space) : List Byte → Except Reject (Instr × List Byte)
  | [] => .error .truncated
  | b :: rest =>
    match entry sp b with
    | none => .error (.noEntry sp b)
    | some (.plain i) => .ok (i, rest)
    | some (.imm8 mk) =>
      match rest with
      | n :: more => .ok (mk n, more)
      | [] => .error .truncated
    | some (.imm16 mk) =>
      match rest with
      | lo :: hi :: more => .ok (mk (join hi lo), more)
      | _ => .error .truncated

/-! ## The opcode table row and the encoder (R100) -/

/-- A row of the opcode table (R100): the space, the opcode byte, the immediate bytes of this instruction in memory
order, and the cost pair (base, alt) in clock periods (R104). -/
structure Row where
  space : Space
  opcode : Byte
  imm : List Byte
  base : Nat
  alt : Nat
  deriving DecidableEq, Repr

/-- The row of every instruction, as spec/opcode_table.json lists it. -/
def Instr.row : Instr → Row
  | .nop => ⟨.primary, 0x00#8, [], 4, 4⟩
  | .ldBcD16 v => ⟨.primary, 0x01#8, [lo8 v, hi8 v], 12, 12⟩
  | .ldAtBcA => ⟨.primary, 0x02#8, [], 8, 8⟩
  | .incBc => ⟨.primary, 0x03#8, [], 8, 8⟩
  | .incB => ⟨.primary, 0x04#8, [], 4, 4⟩
  | .decB => ⟨.primary, 0x05#8, [], 4, 4⟩
  | .ldBD8 n => ⟨.primary, 0x06#8, [n], 8, 8⟩
  | .rlca => ⟨.primary, 0x07#8, [], 4, 4⟩
  | .ldAtA16Sp a => ⟨.primary, 0x08#8, [lo8 a, hi8 a], 20, 20⟩
  | .addHlBc => ⟨.primary, 0x09#8, [], 8, 8⟩
  | .ldAAtBc => ⟨.primary, 0x0A#8, [], 8, 8⟩
  | .decBc => ⟨.primary, 0x0B#8, [], 8, 8⟩
  | .incC => ⟨.primary, 0x0C#8, [], 4, 4⟩
  | .decC => ⟨.primary, 0x0D#8, [], 4, 4⟩
  | .ldCD8 n => ⟨.primary, 0x0E#8, [n], 8, 8⟩
  | .rrca => ⟨.primary, 0x0F#8, [], 4, 4⟩
  | .stop n => ⟨.primary, 0x10#8, [n], 4, 4⟩
  | .ldDeD16 v => ⟨.primary, 0x11#8, [lo8 v, hi8 v], 12, 12⟩
  | .ldAtDeA => ⟨.primary, 0x12#8, [], 8, 8⟩
  | .incDe => ⟨.primary, 0x13#8, [], 8, 8⟩
  | .incD => ⟨.primary, 0x14#8, [], 4, 4⟩
  | .decD => ⟨.primary, 0x15#8, [], 4, 4⟩
  | .ldDD8 n => ⟨.primary, 0x16#8, [n], 8, 8⟩
  | .rla => ⟨.primary, 0x17#8, [], 4, 4⟩
  | .jrE8 e => ⟨.primary, 0x18#8, [e], 12, 12⟩
  | .addHlDe => ⟨.primary, 0x19#8, [], 8, 8⟩
  | .ldAAtDe => ⟨.primary, 0x1A#8, [], 8, 8⟩
  | .decDe => ⟨.primary, 0x1B#8, [], 8, 8⟩
  | .incE => ⟨.primary, 0x1C#8, [], 4, 4⟩
  | .decE => ⟨.primary, 0x1D#8, [], 4, 4⟩
  | .ldED8 n => ⟨.primary, 0x1E#8, [n], 8, 8⟩
  | .rra => ⟨.primary, 0x1F#8, [], 4, 4⟩
  | .jrNzE8 e => ⟨.primary, 0x20#8, [e], 12, 8⟩
  | .ldHlD16 v => ⟨.primary, 0x21#8, [lo8 v, hi8 v], 12, 12⟩
  | .ldAtHliA => ⟨.primary, 0x22#8, [], 8, 8⟩
  | .incHl => ⟨.primary, 0x23#8, [], 8, 8⟩
  | .incH => ⟨.primary, 0x24#8, [], 4, 4⟩
  | .decH => ⟨.primary, 0x25#8, [], 4, 4⟩
  | .ldHD8 n => ⟨.primary, 0x26#8, [n], 8, 8⟩
  | .daa => ⟨.primary, 0x27#8, [], 4, 4⟩
  | .jrZE8 e => ⟨.primary, 0x28#8, [e], 12, 8⟩
  | .addHlHl => ⟨.primary, 0x29#8, [], 8, 8⟩
  | .ldAAtHli => ⟨.primary, 0x2A#8, [], 8, 8⟩
  | .decHl => ⟨.primary, 0x2B#8, [], 8, 8⟩
  | .incL => ⟨.primary, 0x2C#8, [], 4, 4⟩
  | .decL => ⟨.primary, 0x2D#8, [], 4, 4⟩
  | .ldLD8 n => ⟨.primary, 0x2E#8, [n], 8, 8⟩
  | .cpl => ⟨.primary, 0x2F#8, [], 4, 4⟩
  | .jrNcE8 e => ⟨.primary, 0x30#8, [e], 12, 8⟩
  | .ldSpD16 v => ⟨.primary, 0x31#8, [lo8 v, hi8 v], 12, 12⟩
  | .ldAtHldA => ⟨.primary, 0x32#8, [], 8, 8⟩
  | .incSp => ⟨.primary, 0x33#8, [], 8, 8⟩
  | .incAtHl => ⟨.primary, 0x34#8, [], 12, 12⟩
  | .decAtHl => ⟨.primary, 0x35#8, [], 12, 12⟩
  | .ldAtHlD8 n => ⟨.primary, 0x36#8, [n], 12, 12⟩
  | .scf => ⟨.primary, 0x37#8, [], 4, 4⟩
  | .jrCE8 e => ⟨.primary, 0x38#8, [e], 12, 8⟩
  | .addHlSp => ⟨.primary, 0x39#8, [], 8, 8⟩
  | .ldAAtHld => ⟨.primary, 0x3A#8, [], 8, 8⟩
  | .decSp => ⟨.primary, 0x3B#8, [], 8, 8⟩
  | .incA => ⟨.primary, 0x3C#8, [], 4, 4⟩
  | .decA => ⟨.primary, 0x3D#8, [], 4, 4⟩
  | .ldAD8 n => ⟨.primary, 0x3E#8, [n], 8, 8⟩
  | .ccf => ⟨.primary, 0x3F#8, [], 4, 4⟩
  | .ldBB => ⟨.primary, 0x40#8, [], 4, 4⟩
  | .ldBC => ⟨.primary, 0x41#8, [], 4, 4⟩
  | .ldBD => ⟨.primary, 0x42#8, [], 4, 4⟩
  | .ldBE => ⟨.primary, 0x43#8, [], 4, 4⟩
  | .ldBH => ⟨.primary, 0x44#8, [], 4, 4⟩
  | .ldBL => ⟨.primary, 0x45#8, [], 4, 4⟩
  | .ldBAtHl => ⟨.primary, 0x46#8, [], 8, 8⟩
  | .ldBA => ⟨.primary, 0x47#8, [], 4, 4⟩
  | .ldCB => ⟨.primary, 0x48#8, [], 4, 4⟩
  | .ldCC => ⟨.primary, 0x49#8, [], 4, 4⟩
  | .ldCD => ⟨.primary, 0x4A#8, [], 4, 4⟩
  | .ldCE => ⟨.primary, 0x4B#8, [], 4, 4⟩
  | .ldCH => ⟨.primary, 0x4C#8, [], 4, 4⟩
  | .ldCL => ⟨.primary, 0x4D#8, [], 4, 4⟩
  | .ldCAtHl => ⟨.primary, 0x4E#8, [], 8, 8⟩
  | .ldCA => ⟨.primary, 0x4F#8, [], 4, 4⟩
  | .ldDB => ⟨.primary, 0x50#8, [], 4, 4⟩
  | .ldDC => ⟨.primary, 0x51#8, [], 4, 4⟩
  | .ldDD => ⟨.primary, 0x52#8, [], 4, 4⟩
  | .ldDE => ⟨.primary, 0x53#8, [], 4, 4⟩
  | .ldDH => ⟨.primary, 0x54#8, [], 4, 4⟩
  | .ldDL => ⟨.primary, 0x55#8, [], 4, 4⟩
  | .ldDAtHl => ⟨.primary, 0x56#8, [], 8, 8⟩
  | .ldDA => ⟨.primary, 0x57#8, [], 4, 4⟩
  | .ldEB => ⟨.primary, 0x58#8, [], 4, 4⟩
  | .ldEC => ⟨.primary, 0x59#8, [], 4, 4⟩
  | .ldED => ⟨.primary, 0x5A#8, [], 4, 4⟩
  | .ldEE => ⟨.primary, 0x5B#8, [], 4, 4⟩
  | .ldEH => ⟨.primary, 0x5C#8, [], 4, 4⟩
  | .ldEL => ⟨.primary, 0x5D#8, [], 4, 4⟩
  | .ldEAtHl => ⟨.primary, 0x5E#8, [], 8, 8⟩
  | .ldEA => ⟨.primary, 0x5F#8, [], 4, 4⟩
  | .ldHB => ⟨.primary, 0x60#8, [], 4, 4⟩
  | .ldHC => ⟨.primary, 0x61#8, [], 4, 4⟩
  | .ldHD => ⟨.primary, 0x62#8, [], 4, 4⟩
  | .ldHE => ⟨.primary, 0x63#8, [], 4, 4⟩
  | .ldHH => ⟨.primary, 0x64#8, [], 4, 4⟩
  | .ldHL => ⟨.primary, 0x65#8, [], 4, 4⟩
  | .ldHAtHl => ⟨.primary, 0x66#8, [], 8, 8⟩
  | .ldHA => ⟨.primary, 0x67#8, [], 4, 4⟩
  | .ldLB => ⟨.primary, 0x68#8, [], 4, 4⟩
  | .ldLC => ⟨.primary, 0x69#8, [], 4, 4⟩
  | .ldLD => ⟨.primary, 0x6A#8, [], 4, 4⟩
  | .ldLE => ⟨.primary, 0x6B#8, [], 4, 4⟩
  | .ldLH => ⟨.primary, 0x6C#8, [], 4, 4⟩
  | .ldLL => ⟨.primary, 0x6D#8, [], 4, 4⟩
  | .ldLAtHl => ⟨.primary, 0x6E#8, [], 8, 8⟩
  | .ldLA => ⟨.primary, 0x6F#8, [], 4, 4⟩
  | .ldAtHlB => ⟨.primary, 0x70#8, [], 8, 8⟩
  | .ldAtHlC => ⟨.primary, 0x71#8, [], 8, 8⟩
  | .ldAtHlD => ⟨.primary, 0x72#8, [], 8, 8⟩
  | .ldAtHlE => ⟨.primary, 0x73#8, [], 8, 8⟩
  | .ldAtHlH => ⟨.primary, 0x74#8, [], 8, 8⟩
  | .ldAtHlL => ⟨.primary, 0x75#8, [], 8, 8⟩
  | .halt => ⟨.primary, 0x76#8, [], 4, 4⟩
  | .ldAtHlA => ⟨.primary, 0x77#8, [], 8, 8⟩
  | .ldAB => ⟨.primary, 0x78#8, [], 4, 4⟩
  | .ldAC => ⟨.primary, 0x79#8, [], 4, 4⟩
  | .ldAD => ⟨.primary, 0x7A#8, [], 4, 4⟩
  | .ldAE => ⟨.primary, 0x7B#8, [], 4, 4⟩
  | .ldAH => ⟨.primary, 0x7C#8, [], 4, 4⟩
  | .ldAL => ⟨.primary, 0x7D#8, [], 4, 4⟩
  | .ldAAtHl => ⟨.primary, 0x7E#8, [], 8, 8⟩
  | .ldAA => ⟨.primary, 0x7F#8, [], 4, 4⟩
  | .addAB => ⟨.primary, 0x80#8, [], 4, 4⟩
  | .addAC => ⟨.primary, 0x81#8, [], 4, 4⟩
  | .addAD => ⟨.primary, 0x82#8, [], 4, 4⟩
  | .addAE => ⟨.primary, 0x83#8, [], 4, 4⟩
  | .addAH => ⟨.primary, 0x84#8, [], 4, 4⟩
  | .addAL => ⟨.primary, 0x85#8, [], 4, 4⟩
  | .addAAtHl => ⟨.primary, 0x86#8, [], 8, 8⟩
  | .addAA => ⟨.primary, 0x87#8, [], 4, 4⟩
  | .adcAB => ⟨.primary, 0x88#8, [], 4, 4⟩
  | .adcAC => ⟨.primary, 0x89#8, [], 4, 4⟩
  | .adcAD => ⟨.primary, 0x8A#8, [], 4, 4⟩
  | .adcAE => ⟨.primary, 0x8B#8, [], 4, 4⟩
  | .adcAH => ⟨.primary, 0x8C#8, [], 4, 4⟩
  | .adcAL => ⟨.primary, 0x8D#8, [], 4, 4⟩
  | .adcAAtHl => ⟨.primary, 0x8E#8, [], 8, 8⟩
  | .adcAA => ⟨.primary, 0x8F#8, [], 4, 4⟩
  | .subAB => ⟨.primary, 0x90#8, [], 4, 4⟩
  | .subAC => ⟨.primary, 0x91#8, [], 4, 4⟩
  | .subAD => ⟨.primary, 0x92#8, [], 4, 4⟩
  | .subAE => ⟨.primary, 0x93#8, [], 4, 4⟩
  | .subAH => ⟨.primary, 0x94#8, [], 4, 4⟩
  | .subAL => ⟨.primary, 0x95#8, [], 4, 4⟩
  | .subAAtHl => ⟨.primary, 0x96#8, [], 8, 8⟩
  | .subAA => ⟨.primary, 0x97#8, [], 4, 4⟩
  | .sbcAB => ⟨.primary, 0x98#8, [], 4, 4⟩
  | .sbcAC => ⟨.primary, 0x99#8, [], 4, 4⟩
  | .sbcAD => ⟨.primary, 0x9A#8, [], 4, 4⟩
  | .sbcAE => ⟨.primary, 0x9B#8, [], 4, 4⟩
  | .sbcAH => ⟨.primary, 0x9C#8, [], 4, 4⟩
  | .sbcAL => ⟨.primary, 0x9D#8, [], 4, 4⟩
  | .sbcAAtHl => ⟨.primary, 0x9E#8, [], 8, 8⟩
  | .sbcAA => ⟨.primary, 0x9F#8, [], 4, 4⟩
  | .andAB => ⟨.primary, 0xA0#8, [], 4, 4⟩
  | .andAC => ⟨.primary, 0xA1#8, [], 4, 4⟩
  | .andAD => ⟨.primary, 0xA2#8, [], 4, 4⟩
  | .andAE => ⟨.primary, 0xA3#8, [], 4, 4⟩
  | .andAH => ⟨.primary, 0xA4#8, [], 4, 4⟩
  | .andAL => ⟨.primary, 0xA5#8, [], 4, 4⟩
  | .andAAtHl => ⟨.primary, 0xA6#8, [], 8, 8⟩
  | .andAA => ⟨.primary, 0xA7#8, [], 4, 4⟩
  | .xorAB => ⟨.primary, 0xA8#8, [], 4, 4⟩
  | .xorAC => ⟨.primary, 0xA9#8, [], 4, 4⟩
  | .xorAD => ⟨.primary, 0xAA#8, [], 4, 4⟩
  | .xorAE => ⟨.primary, 0xAB#8, [], 4, 4⟩
  | .xorAH => ⟨.primary, 0xAC#8, [], 4, 4⟩
  | .xorAL => ⟨.primary, 0xAD#8, [], 4, 4⟩
  | .xorAAtHl => ⟨.primary, 0xAE#8, [], 8, 8⟩
  | .xorAA => ⟨.primary, 0xAF#8, [], 4, 4⟩
  | .orAB => ⟨.primary, 0xB0#8, [], 4, 4⟩
  | .orAC => ⟨.primary, 0xB1#8, [], 4, 4⟩
  | .orAD => ⟨.primary, 0xB2#8, [], 4, 4⟩
  | .orAE => ⟨.primary, 0xB3#8, [], 4, 4⟩
  | .orAH => ⟨.primary, 0xB4#8, [], 4, 4⟩
  | .orAL => ⟨.primary, 0xB5#8, [], 4, 4⟩
  | .orAAtHl => ⟨.primary, 0xB6#8, [], 8, 8⟩
  | .orAA => ⟨.primary, 0xB7#8, [], 4, 4⟩
  | .cpAB => ⟨.primary, 0xB8#8, [], 4, 4⟩
  | .cpAC => ⟨.primary, 0xB9#8, [], 4, 4⟩
  | .cpAD => ⟨.primary, 0xBA#8, [], 4, 4⟩
  | .cpAE => ⟨.primary, 0xBB#8, [], 4, 4⟩
  | .cpAH => ⟨.primary, 0xBC#8, [], 4, 4⟩
  | .cpAL => ⟨.primary, 0xBD#8, [], 4, 4⟩
  | .cpAAtHl => ⟨.primary, 0xBE#8, [], 8, 8⟩
  | .cpAA => ⟨.primary, 0xBF#8, [], 4, 4⟩
  | .retNz => ⟨.primary, 0xC0#8, [], 20, 8⟩
  | .popBc => ⟨.primary, 0xC1#8, [], 12, 12⟩
  | .jpNzA16 a => ⟨.primary, 0xC2#8, [lo8 a, hi8 a], 16, 12⟩
  | .jpA16 a => ⟨.primary, 0xC3#8, [lo8 a, hi8 a], 16, 16⟩
  | .callNzA16 a => ⟨.primary, 0xC4#8, [lo8 a, hi8 a], 24, 12⟩
  | .pushBc => ⟨.primary, 0xC5#8, [], 16, 16⟩
  | .addAD8 n => ⟨.primary, 0xC6#8, [n], 8, 8⟩
  | .rst00 => ⟨.primary, 0xC7#8, [], 16, 16⟩
  | .retZ => ⟨.primary, 0xC8#8, [], 20, 8⟩
  | .ret => ⟨.primary, 0xC9#8, [], 16, 16⟩
  | .jpZA16 a => ⟨.primary, 0xCA#8, [lo8 a, hi8 a], 16, 12⟩
  | .prefixCb => ⟨.primary, 0xCB#8, [], 4, 4⟩
  | .callZA16 a => ⟨.primary, 0xCC#8, [lo8 a, hi8 a], 24, 12⟩
  | .callA16 a => ⟨.primary, 0xCD#8, [lo8 a, hi8 a], 24, 24⟩
  | .adcAD8 n => ⟨.primary, 0xCE#8, [n], 8, 8⟩
  | .rst08 => ⟨.primary, 0xCF#8, [], 16, 16⟩
  | .retNc => ⟨.primary, 0xD0#8, [], 20, 8⟩
  | .popDe => ⟨.primary, 0xD1#8, [], 12, 12⟩
  | .jpNcA16 a => ⟨.primary, 0xD2#8, [lo8 a, hi8 a], 16, 12⟩
  | .callNcA16 a => ⟨.primary, 0xD4#8, [lo8 a, hi8 a], 24, 12⟩
  | .pushDe => ⟨.primary, 0xD5#8, [], 16, 16⟩
  | .subAD8 n => ⟨.primary, 0xD6#8, [n], 8, 8⟩
  | .rst10 => ⟨.primary, 0xD7#8, [], 16, 16⟩
  | .retC => ⟨.primary, 0xD8#8, [], 20, 8⟩
  | .reti => ⟨.primary, 0xD9#8, [], 16, 16⟩
  | .jpCA16 a => ⟨.primary, 0xDA#8, [lo8 a, hi8 a], 16, 12⟩
  | .callCA16 a => ⟨.primary, 0xDC#8, [lo8 a, hi8 a], 24, 12⟩
  | .sbcAD8 n => ⟨.primary, 0xDE#8, [n], 8, 8⟩
  | .rst18 => ⟨.primary, 0xDF#8, [], 16, 16⟩
  | .ldhAtA8A o => ⟨.primary, 0xE0#8, [o], 12, 12⟩
  | .popHl => ⟨.primary, 0xE1#8, [], 12, 12⟩
  | .ldAtCA => ⟨.primary, 0xE2#8, [], 8, 8⟩
  | .pushHl => ⟨.primary, 0xE5#8, [], 16, 16⟩
  | .andAD8 n => ⟨.primary, 0xE6#8, [n], 8, 8⟩
  | .rst20 => ⟨.primary, 0xE7#8, [], 16, 16⟩
  | .addSpE8 e => ⟨.primary, 0xE8#8, [e], 16, 16⟩
  | .jpHl => ⟨.primary, 0xE9#8, [], 4, 4⟩
  | .ldAtA16A a => ⟨.primary, 0xEA#8, [lo8 a, hi8 a], 16, 16⟩
  | .xorAD8 n => ⟨.primary, 0xEE#8, [n], 8, 8⟩
  | .rst28 => ⟨.primary, 0xEF#8, [], 16, 16⟩
  | .ldhAAtA8 o => ⟨.primary, 0xF0#8, [o], 12, 12⟩
  | .popAf => ⟨.primary, 0xF1#8, [], 12, 12⟩
  | .ldAAtC => ⟨.primary, 0xF2#8, [], 8, 8⟩
  | .di => ⟨.primary, 0xF3#8, [], 4, 4⟩
  | .pushAf => ⟨.primary, 0xF5#8, [], 16, 16⟩
  | .orAD8 n => ⟨.primary, 0xF6#8, [n], 8, 8⟩
  | .rst30 => ⟨.primary, 0xF7#8, [], 16, 16⟩
  | .ldHlSpE8 e => ⟨.primary, 0xF8#8, [e], 12, 12⟩
  | .ldSpHl => ⟨.primary, 0xF9#8, [], 8, 8⟩
  | .ldAAtA16 a => ⟨.primary, 0xFA#8, [lo8 a, hi8 a], 16, 16⟩
  | .ei => ⟨.primary, 0xFB#8, [], 4, 4⟩
  | .cpAD8 n => ⟨.primary, 0xFE#8, [n], 8, 8⟩
  | .rst38 => ⟨.primary, 0xFF#8, [], 16, 16⟩
  | .rlcB => ⟨.secondary, 0x00#8, [], 4, 4⟩
  | .rlcC => ⟨.secondary, 0x01#8, [], 4, 4⟩
  | .rlcD => ⟨.secondary, 0x02#8, [], 4, 4⟩
  | .rlcE => ⟨.secondary, 0x03#8, [], 4, 4⟩
  | .rlcH => ⟨.secondary, 0x04#8, [], 4, 4⟩
  | .rlcL => ⟨.secondary, 0x05#8, [], 4, 4⟩
  | .rlcAtHl => ⟨.secondary, 0x06#8, [], 12, 12⟩
  | .rlcA => ⟨.secondary, 0x07#8, [], 4, 4⟩
  | .rrcB => ⟨.secondary, 0x08#8, [], 4, 4⟩
  | .rrcC => ⟨.secondary, 0x09#8, [], 4, 4⟩
  | .rrcD => ⟨.secondary, 0x0A#8, [], 4, 4⟩
  | .rrcE => ⟨.secondary, 0x0B#8, [], 4, 4⟩
  | .rrcH => ⟨.secondary, 0x0C#8, [], 4, 4⟩
  | .rrcL => ⟨.secondary, 0x0D#8, [], 4, 4⟩
  | .rrcAtHl => ⟨.secondary, 0x0E#8, [], 12, 12⟩
  | .rrcA => ⟨.secondary, 0x0F#8, [], 4, 4⟩
  | .rlB => ⟨.secondary, 0x10#8, [], 4, 4⟩
  | .rlC => ⟨.secondary, 0x11#8, [], 4, 4⟩
  | .rlD => ⟨.secondary, 0x12#8, [], 4, 4⟩
  | .rlE => ⟨.secondary, 0x13#8, [], 4, 4⟩
  | .rlH => ⟨.secondary, 0x14#8, [], 4, 4⟩
  | .rlL => ⟨.secondary, 0x15#8, [], 4, 4⟩
  | .rlAtHl => ⟨.secondary, 0x16#8, [], 12, 12⟩
  | .rlA => ⟨.secondary, 0x17#8, [], 4, 4⟩
  | .rrB => ⟨.secondary, 0x18#8, [], 4, 4⟩
  | .rrC => ⟨.secondary, 0x19#8, [], 4, 4⟩
  | .rrD => ⟨.secondary, 0x1A#8, [], 4, 4⟩
  | .rrE => ⟨.secondary, 0x1B#8, [], 4, 4⟩
  | .rrH => ⟨.secondary, 0x1C#8, [], 4, 4⟩
  | .rrL => ⟨.secondary, 0x1D#8, [], 4, 4⟩
  | .rrAtHl => ⟨.secondary, 0x1E#8, [], 12, 12⟩
  | .rrA => ⟨.secondary, 0x1F#8, [], 4, 4⟩
  | .slaB => ⟨.secondary, 0x20#8, [], 4, 4⟩
  | .slaC => ⟨.secondary, 0x21#8, [], 4, 4⟩
  | .slaD => ⟨.secondary, 0x22#8, [], 4, 4⟩
  | .slaE => ⟨.secondary, 0x23#8, [], 4, 4⟩
  | .slaH => ⟨.secondary, 0x24#8, [], 4, 4⟩
  | .slaL => ⟨.secondary, 0x25#8, [], 4, 4⟩
  | .slaAtHl => ⟨.secondary, 0x26#8, [], 12, 12⟩
  | .slaA => ⟨.secondary, 0x27#8, [], 4, 4⟩
  | .sraB => ⟨.secondary, 0x28#8, [], 4, 4⟩
  | .sraC => ⟨.secondary, 0x29#8, [], 4, 4⟩
  | .sraD => ⟨.secondary, 0x2A#8, [], 4, 4⟩
  | .sraE => ⟨.secondary, 0x2B#8, [], 4, 4⟩
  | .sraH => ⟨.secondary, 0x2C#8, [], 4, 4⟩
  | .sraL => ⟨.secondary, 0x2D#8, [], 4, 4⟩
  | .sraAtHl => ⟨.secondary, 0x2E#8, [], 12, 12⟩
  | .sraA => ⟨.secondary, 0x2F#8, [], 4, 4⟩
  | .swapB => ⟨.secondary, 0x30#8, [], 4, 4⟩
  | .swapC => ⟨.secondary, 0x31#8, [], 4, 4⟩
  | .swapD => ⟨.secondary, 0x32#8, [], 4, 4⟩
  | .swapE => ⟨.secondary, 0x33#8, [], 4, 4⟩
  | .swapH => ⟨.secondary, 0x34#8, [], 4, 4⟩
  | .swapL => ⟨.secondary, 0x35#8, [], 4, 4⟩
  | .swapAtHl => ⟨.secondary, 0x36#8, [], 12, 12⟩
  | .swapA => ⟨.secondary, 0x37#8, [], 4, 4⟩
  | .srlB => ⟨.secondary, 0x38#8, [], 4, 4⟩
  | .srlC => ⟨.secondary, 0x39#8, [], 4, 4⟩
  | .srlD => ⟨.secondary, 0x3A#8, [], 4, 4⟩
  | .srlE => ⟨.secondary, 0x3B#8, [], 4, 4⟩
  | .srlH => ⟨.secondary, 0x3C#8, [], 4, 4⟩
  | .srlL => ⟨.secondary, 0x3D#8, [], 4, 4⟩
  | .srlAtHl => ⟨.secondary, 0x3E#8, [], 12, 12⟩
  | .srlA => ⟨.secondary, 0x3F#8, [], 4, 4⟩
  | .bit0B => ⟨.secondary, 0x40#8, [], 4, 4⟩
  | .bit0C => ⟨.secondary, 0x41#8, [], 4, 4⟩
  | .bit0D => ⟨.secondary, 0x42#8, [], 4, 4⟩
  | .bit0E => ⟨.secondary, 0x43#8, [], 4, 4⟩
  | .bit0H => ⟨.secondary, 0x44#8, [], 4, 4⟩
  | .bit0L => ⟨.secondary, 0x45#8, [], 4, 4⟩
  | .bit0AtHl => ⟨.secondary, 0x46#8, [], 8, 8⟩
  | .bit0A => ⟨.secondary, 0x47#8, [], 4, 4⟩
  | .bit1B => ⟨.secondary, 0x48#8, [], 4, 4⟩
  | .bit1C => ⟨.secondary, 0x49#8, [], 4, 4⟩
  | .bit1D => ⟨.secondary, 0x4A#8, [], 4, 4⟩
  | .bit1E => ⟨.secondary, 0x4B#8, [], 4, 4⟩
  | .bit1H => ⟨.secondary, 0x4C#8, [], 4, 4⟩
  | .bit1L => ⟨.secondary, 0x4D#8, [], 4, 4⟩
  | .bit1AtHl => ⟨.secondary, 0x4E#8, [], 8, 8⟩
  | .bit1A => ⟨.secondary, 0x4F#8, [], 4, 4⟩
  | .bit2B => ⟨.secondary, 0x50#8, [], 4, 4⟩
  | .bit2C => ⟨.secondary, 0x51#8, [], 4, 4⟩
  | .bit2D => ⟨.secondary, 0x52#8, [], 4, 4⟩
  | .bit2E => ⟨.secondary, 0x53#8, [], 4, 4⟩
  | .bit2H => ⟨.secondary, 0x54#8, [], 4, 4⟩
  | .bit2L => ⟨.secondary, 0x55#8, [], 4, 4⟩
  | .bit2AtHl => ⟨.secondary, 0x56#8, [], 8, 8⟩
  | .bit2A => ⟨.secondary, 0x57#8, [], 4, 4⟩
  | .bit3B => ⟨.secondary, 0x58#8, [], 4, 4⟩
  | .bit3C => ⟨.secondary, 0x59#8, [], 4, 4⟩
  | .bit3D => ⟨.secondary, 0x5A#8, [], 4, 4⟩
  | .bit3E => ⟨.secondary, 0x5B#8, [], 4, 4⟩
  | .bit3H => ⟨.secondary, 0x5C#8, [], 4, 4⟩
  | .bit3L => ⟨.secondary, 0x5D#8, [], 4, 4⟩
  | .bit3AtHl => ⟨.secondary, 0x5E#8, [], 8, 8⟩
  | .bit3A => ⟨.secondary, 0x5F#8, [], 4, 4⟩
  | .bit4B => ⟨.secondary, 0x60#8, [], 4, 4⟩
  | .bit4C => ⟨.secondary, 0x61#8, [], 4, 4⟩
  | .bit4D => ⟨.secondary, 0x62#8, [], 4, 4⟩
  | .bit4E => ⟨.secondary, 0x63#8, [], 4, 4⟩
  | .bit4H => ⟨.secondary, 0x64#8, [], 4, 4⟩
  | .bit4L => ⟨.secondary, 0x65#8, [], 4, 4⟩
  | .bit4AtHl => ⟨.secondary, 0x66#8, [], 8, 8⟩
  | .bit4A => ⟨.secondary, 0x67#8, [], 4, 4⟩
  | .bit5B => ⟨.secondary, 0x68#8, [], 4, 4⟩
  | .bit5C => ⟨.secondary, 0x69#8, [], 4, 4⟩
  | .bit5D => ⟨.secondary, 0x6A#8, [], 4, 4⟩
  | .bit5E => ⟨.secondary, 0x6B#8, [], 4, 4⟩
  | .bit5H => ⟨.secondary, 0x6C#8, [], 4, 4⟩
  | .bit5L => ⟨.secondary, 0x6D#8, [], 4, 4⟩
  | .bit5AtHl => ⟨.secondary, 0x6E#8, [], 8, 8⟩
  | .bit5A => ⟨.secondary, 0x6F#8, [], 4, 4⟩
  | .bit6B => ⟨.secondary, 0x70#8, [], 4, 4⟩
  | .bit6C => ⟨.secondary, 0x71#8, [], 4, 4⟩
  | .bit6D => ⟨.secondary, 0x72#8, [], 4, 4⟩
  | .bit6E => ⟨.secondary, 0x73#8, [], 4, 4⟩
  | .bit6H => ⟨.secondary, 0x74#8, [], 4, 4⟩
  | .bit6L => ⟨.secondary, 0x75#8, [], 4, 4⟩
  | .bit6AtHl => ⟨.secondary, 0x76#8, [], 8, 8⟩
  | .bit6A => ⟨.secondary, 0x77#8, [], 4, 4⟩
  | .bit7B => ⟨.secondary, 0x78#8, [], 4, 4⟩
  | .bit7C => ⟨.secondary, 0x79#8, [], 4, 4⟩
  | .bit7D => ⟨.secondary, 0x7A#8, [], 4, 4⟩
  | .bit7E => ⟨.secondary, 0x7B#8, [], 4, 4⟩
  | .bit7H => ⟨.secondary, 0x7C#8, [], 4, 4⟩
  | .bit7L => ⟨.secondary, 0x7D#8, [], 4, 4⟩
  | .bit7AtHl => ⟨.secondary, 0x7E#8, [], 8, 8⟩
  | .bit7A => ⟨.secondary, 0x7F#8, [], 4, 4⟩
  | .res0B => ⟨.secondary, 0x80#8, [], 4, 4⟩
  | .res0C => ⟨.secondary, 0x81#8, [], 4, 4⟩
  | .res0D => ⟨.secondary, 0x82#8, [], 4, 4⟩
  | .res0E => ⟨.secondary, 0x83#8, [], 4, 4⟩
  | .res0H => ⟨.secondary, 0x84#8, [], 4, 4⟩
  | .res0L => ⟨.secondary, 0x85#8, [], 4, 4⟩
  | .res0AtHl => ⟨.secondary, 0x86#8, [], 12, 12⟩
  | .res0A => ⟨.secondary, 0x87#8, [], 4, 4⟩
  | .res1B => ⟨.secondary, 0x88#8, [], 4, 4⟩
  | .res1C => ⟨.secondary, 0x89#8, [], 4, 4⟩
  | .res1D => ⟨.secondary, 0x8A#8, [], 4, 4⟩
  | .res1E => ⟨.secondary, 0x8B#8, [], 4, 4⟩
  | .res1H => ⟨.secondary, 0x8C#8, [], 4, 4⟩
  | .res1L => ⟨.secondary, 0x8D#8, [], 4, 4⟩
  | .res1AtHl => ⟨.secondary, 0x8E#8, [], 12, 12⟩
  | .res1A => ⟨.secondary, 0x8F#8, [], 4, 4⟩
  | .res2B => ⟨.secondary, 0x90#8, [], 4, 4⟩
  | .res2C => ⟨.secondary, 0x91#8, [], 4, 4⟩
  | .res2D => ⟨.secondary, 0x92#8, [], 4, 4⟩
  | .res2E => ⟨.secondary, 0x93#8, [], 4, 4⟩
  | .res2H => ⟨.secondary, 0x94#8, [], 4, 4⟩
  | .res2L => ⟨.secondary, 0x95#8, [], 4, 4⟩
  | .res2AtHl => ⟨.secondary, 0x96#8, [], 12, 12⟩
  | .res2A => ⟨.secondary, 0x97#8, [], 4, 4⟩
  | .res3B => ⟨.secondary, 0x98#8, [], 4, 4⟩
  | .res3C => ⟨.secondary, 0x99#8, [], 4, 4⟩
  | .res3D => ⟨.secondary, 0x9A#8, [], 4, 4⟩
  | .res3E => ⟨.secondary, 0x9B#8, [], 4, 4⟩
  | .res3H => ⟨.secondary, 0x9C#8, [], 4, 4⟩
  | .res3L => ⟨.secondary, 0x9D#8, [], 4, 4⟩
  | .res3AtHl => ⟨.secondary, 0x9E#8, [], 12, 12⟩
  | .res3A => ⟨.secondary, 0x9F#8, [], 4, 4⟩
  | .res4B => ⟨.secondary, 0xA0#8, [], 4, 4⟩
  | .res4C => ⟨.secondary, 0xA1#8, [], 4, 4⟩
  | .res4D => ⟨.secondary, 0xA2#8, [], 4, 4⟩
  | .res4E => ⟨.secondary, 0xA3#8, [], 4, 4⟩
  | .res4H => ⟨.secondary, 0xA4#8, [], 4, 4⟩
  | .res4L => ⟨.secondary, 0xA5#8, [], 4, 4⟩
  | .res4AtHl => ⟨.secondary, 0xA6#8, [], 12, 12⟩
  | .res4A => ⟨.secondary, 0xA7#8, [], 4, 4⟩
  | .res5B => ⟨.secondary, 0xA8#8, [], 4, 4⟩
  | .res5C => ⟨.secondary, 0xA9#8, [], 4, 4⟩
  | .res5D => ⟨.secondary, 0xAA#8, [], 4, 4⟩
  | .res5E => ⟨.secondary, 0xAB#8, [], 4, 4⟩
  | .res5H => ⟨.secondary, 0xAC#8, [], 4, 4⟩
  | .res5L => ⟨.secondary, 0xAD#8, [], 4, 4⟩
  | .res5AtHl => ⟨.secondary, 0xAE#8, [], 12, 12⟩
  | .res5A => ⟨.secondary, 0xAF#8, [], 4, 4⟩
  | .res6B => ⟨.secondary, 0xB0#8, [], 4, 4⟩
  | .res6C => ⟨.secondary, 0xB1#8, [], 4, 4⟩
  | .res6D => ⟨.secondary, 0xB2#8, [], 4, 4⟩
  | .res6E => ⟨.secondary, 0xB3#8, [], 4, 4⟩
  | .res6H => ⟨.secondary, 0xB4#8, [], 4, 4⟩
  | .res6L => ⟨.secondary, 0xB5#8, [], 4, 4⟩
  | .res6AtHl => ⟨.secondary, 0xB6#8, [], 12, 12⟩
  | .res6A => ⟨.secondary, 0xB7#8, [], 4, 4⟩
  | .res7B => ⟨.secondary, 0xB8#8, [], 4, 4⟩
  | .res7C => ⟨.secondary, 0xB9#8, [], 4, 4⟩
  | .res7D => ⟨.secondary, 0xBA#8, [], 4, 4⟩
  | .res7E => ⟨.secondary, 0xBB#8, [], 4, 4⟩
  | .res7H => ⟨.secondary, 0xBC#8, [], 4, 4⟩
  | .res7L => ⟨.secondary, 0xBD#8, [], 4, 4⟩
  | .res7AtHl => ⟨.secondary, 0xBE#8, [], 12, 12⟩
  | .res7A => ⟨.secondary, 0xBF#8, [], 4, 4⟩
  | .set0B => ⟨.secondary, 0xC0#8, [], 4, 4⟩
  | .set0C => ⟨.secondary, 0xC1#8, [], 4, 4⟩
  | .set0D => ⟨.secondary, 0xC2#8, [], 4, 4⟩
  | .set0E => ⟨.secondary, 0xC3#8, [], 4, 4⟩
  | .set0H => ⟨.secondary, 0xC4#8, [], 4, 4⟩
  | .set0L => ⟨.secondary, 0xC5#8, [], 4, 4⟩
  | .set0AtHl => ⟨.secondary, 0xC6#8, [], 12, 12⟩
  | .set0A => ⟨.secondary, 0xC7#8, [], 4, 4⟩
  | .set1B => ⟨.secondary, 0xC8#8, [], 4, 4⟩
  | .set1C => ⟨.secondary, 0xC9#8, [], 4, 4⟩
  | .set1D => ⟨.secondary, 0xCA#8, [], 4, 4⟩
  | .set1E => ⟨.secondary, 0xCB#8, [], 4, 4⟩
  | .set1H => ⟨.secondary, 0xCC#8, [], 4, 4⟩
  | .set1L => ⟨.secondary, 0xCD#8, [], 4, 4⟩
  | .set1AtHl => ⟨.secondary, 0xCE#8, [], 12, 12⟩
  | .set1A => ⟨.secondary, 0xCF#8, [], 4, 4⟩
  | .set2B => ⟨.secondary, 0xD0#8, [], 4, 4⟩
  | .set2C => ⟨.secondary, 0xD1#8, [], 4, 4⟩
  | .set2D => ⟨.secondary, 0xD2#8, [], 4, 4⟩
  | .set2E => ⟨.secondary, 0xD3#8, [], 4, 4⟩
  | .set2H => ⟨.secondary, 0xD4#8, [], 4, 4⟩
  | .set2L => ⟨.secondary, 0xD5#8, [], 4, 4⟩
  | .set2AtHl => ⟨.secondary, 0xD6#8, [], 12, 12⟩
  | .set2A => ⟨.secondary, 0xD7#8, [], 4, 4⟩
  | .set3B => ⟨.secondary, 0xD8#8, [], 4, 4⟩
  | .set3C => ⟨.secondary, 0xD9#8, [], 4, 4⟩
  | .set3D => ⟨.secondary, 0xDA#8, [], 4, 4⟩
  | .set3E => ⟨.secondary, 0xDB#8, [], 4, 4⟩
  | .set3H => ⟨.secondary, 0xDC#8, [], 4, 4⟩
  | .set3L => ⟨.secondary, 0xDD#8, [], 4, 4⟩
  | .set3AtHl => ⟨.secondary, 0xDE#8, [], 12, 12⟩
  | .set3A => ⟨.secondary, 0xDF#8, [], 4, 4⟩
  | .set4B => ⟨.secondary, 0xE0#8, [], 4, 4⟩
  | .set4C => ⟨.secondary, 0xE1#8, [], 4, 4⟩
  | .set4D => ⟨.secondary, 0xE2#8, [], 4, 4⟩
  | .set4E => ⟨.secondary, 0xE3#8, [], 4, 4⟩
  | .set4H => ⟨.secondary, 0xE4#8, [], 4, 4⟩
  | .set4L => ⟨.secondary, 0xE5#8, [], 4, 4⟩
  | .set4AtHl => ⟨.secondary, 0xE6#8, [], 12, 12⟩
  | .set4A => ⟨.secondary, 0xE7#8, [], 4, 4⟩
  | .set5B => ⟨.secondary, 0xE8#8, [], 4, 4⟩
  | .set5C => ⟨.secondary, 0xE9#8, [], 4, 4⟩
  | .set5D => ⟨.secondary, 0xEA#8, [], 4, 4⟩
  | .set5E => ⟨.secondary, 0xEB#8, [], 4, 4⟩
  | .set5H => ⟨.secondary, 0xEC#8, [], 4, 4⟩
  | .set5L => ⟨.secondary, 0xED#8, [], 4, 4⟩
  | .set5AtHl => ⟨.secondary, 0xEE#8, [], 12, 12⟩
  | .set5A => ⟨.secondary, 0xEF#8, [], 4, 4⟩
  | .set6B => ⟨.secondary, 0xF0#8, [], 4, 4⟩
  | .set6C => ⟨.secondary, 0xF1#8, [], 4, 4⟩
  | .set6D => ⟨.secondary, 0xF2#8, [], 4, 4⟩
  | .set6E => ⟨.secondary, 0xF3#8, [], 4, 4⟩
  | .set6H => ⟨.secondary, 0xF4#8, [], 4, 4⟩
  | .set6L => ⟨.secondary, 0xF5#8, [], 4, 4⟩
  | .set6AtHl => ⟨.secondary, 0xF6#8, [], 12, 12⟩
  | .set6A => ⟨.secondary, 0xF7#8, [], 4, 4⟩
  | .set7B => ⟨.secondary, 0xF8#8, [], 4, 4⟩
  | .set7C => ⟨.secondary, 0xF9#8, [], 4, 4⟩
  | .set7D => ⟨.secondary, 0xFA#8, [], 4, 4⟩
  | .set7E => ⟨.secondary, 0xFB#8, [], 4, 4⟩
  | .set7H => ⟨.secondary, 0xFC#8, [], 4, 4⟩
  | .set7L => ⟨.secondary, 0xFD#8, [], 4, 4⟩
  | .set7AtHl => ⟨.secondary, 0xFE#8, [], 12, 12⟩
  | .set7A => ⟨.secondary, 0xFF#8, [], 4, 4⟩

/-- The space an instruction is decoded in. -/
def Instr.space (i : Instr) : Space := i.row.space

/-- The opcode byte of an instruction. -/
def Instr.opcode (i : Instr) : Byte := i.row.opcode

/-- The bytes the engine fetches for an instruction, in memory order; a secondary instruction is one byte, since its
prefix is an instruction of its own (R80, R119). -/
def encode (i : Instr) : List Byte := i.row.opcode :: i.row.imm

/-- How many bytes the engine fetches for an instruction (R97; the prefix 0xCB counts 1 by itself). -/
def Instr.byteLength (i : Instr) : Nat := (encode i).length

/-! ## Rule forms -/

/-- The forms the instruction rules of files 41 to 49 are written for: one constructor per rule or per pair of rules
that differ only in whether the operand is a register or `(HL)`. Statements about all instructions of a rule, or about
all instructions, name the form. -/
inductive Form where
  /-- `LD r8[y],r8[z]` (R131–R133). -/
  | ld (y : R8) (z : R8)
  /-- `LD r8[y],d8` (R134, R135). -/
  | ldImm (y : R8) (n : Byte)
  /-- `LD (BC),A` (R136). -/
  | ldAtBcA
  /-- `LD (DE),A` (R137). -/
  | ldAtDeA
  /-- `LD A,(BC)` (R138). -/
  | ldAAtBc
  /-- `LD A,(DE)` (R139). -/
  | ldAAtDe
  /-- `LD (HL+),A` (R140). -/
  | ldAtHliA
  /-- `LD (HL-),A` (R141). -/
  | ldAtHldA
  /-- `LD A,(HL+)` (R142). -/
  | ldAAtHli
  /-- `LD A,(HL-)` (R143). -/
  | ldAAtHld
  /-- `LD (a16),A` (R144). -/
  | ldAtA16A (a : Word)
  /-- `LD A,(a16)` (R145). -/
  | ldAAtA16 (a : Word)
  /-- `LD HL,SP+e8` (R150). -/
  | ldHlSpE8 (e : Byte)
  /-- `LD rp[p],d16` (R151). -/
  | ldRp (p : Rp) (v : Word)
  /-- `LD (a16),SP` (R152). -/
  | ldAtA16Sp (a : Word)
  /-- `LD SP,HL` (R153). -/
  | ldSpHl
  /-- `INC r8[y]` (R160, R162). -/
  | inc (y : R8)
  /-- `DEC r8[y]` (R161, R163). -/
  | dec (y : R8)
  /-- `INC rp[p]` (R164). -/
  | incRp (p : Rp)
  /-- `DEC rp[p]` (R165). -/
  | decRp (p : Rp)
  /-- `alu[y] A,r8[z]` (R170–R177). -/
  | alu (op : AluOp) (z : R8)
  /-- `alu[y] A,d8` (R170–R177). -/
  | aluImm (op : AluOp) (n : Byte)
  /-- `ADD HL,rp[p]` (R178). -/
  | addHl (p : Rp)
  /-- `ADD SP,e8` (R179). -/
  | addSpE8 (e : Byte)
  /-- `DAA` (R180). -/
  | daa
  /-- `CPL` (R181). -/
  | cpl
  /-- `SCF` (R182). -/
  | scf
  /-- `CCF` (R183). -/
  | ccf
  /-- `RLCA` (R190). -/
  | rlca
  /-- `RRCA` (R191). -/
  | rrca
  /-- `RLA` (R192). -/
  | rla
  /-- `RRA` (R193). -/
  | rra
  /-- `JR e8` (R200). -/
  | jr (e : Byte)
  /-- `JR cc,e8` (R201). -/
  | jrCc (k : Cc) (e : Byte)
  /-- `JP a16` (R202). -/
  | jp (a : Word)
  /-- `JP HL` (R203). -/
  | jpHl
  /-- `JP cc,a16` (R204). -/
  | jpCc (k : Cc) (a : Word)
  /-- `CALL a16` (R210). -/
  | call (a : Word)
  /-- `CALL cc,a16` (R211). -/
  | callCc (k : Cc) (a : Word)
  /-- `RET` (R212). -/
  | ret
  /-- `RET cc` (R213). -/
  | retCc (k : Cc)
  /-- `RETI` (R214). -/
  | reti
  /-- `RST y*8` (R215). -/
  | rst (y : Fin 8)
  /-- `PUSH rp2[p]` (R216). -/
  | push (p : Rp2)
  /-- `POP rp2[p]` (R217). -/
  | pop (p : Rp2)
  /-- `LDH (a8),A` (R230). -/
  | ldhAtA8A (o : Byte)
  /-- `LDH A,(a8)` (R231). -/
  | ldhAAtA8 (o : Byte)
  /-- `LD (C),A` (R232). -/
  | ldAtCA
  /-- `LD A,(C)` (R233). -/
  | ldAAtC
  /-- the prefix (R240). -/
  | prefixCb
  /-- `rot[y] r8[z]` (R241–R248). -/
  | rot (op : RotOp) (z : R8)
  /-- `BIT y,r8[z]` (R249). -/
  | bit (y : Fin 8) (z : R8)
  /-- `RES y,r8[z]` (R250). -/
  | res (y : Fin 8) (z : R8)
  /-- `SET y,r8[z]` (R251). -/
  | set (y : Fin 8) (z : R8)
  /-- `NOP` (R260). -/
  | nop
  /-- `HALT` (R261). -/
  | halt
  /-- `STOP` (R262). -/
  | stop (n : Byte)
  /-- `DI` (R264). -/
  | di
  /-- `EI` (R265). -/
  | ei
  deriving DecidableEq, Repr

/-- The instruction of a form with its operands. -/
def Form.instr : Form → Instr
  | .ld y z => Instr.ofLd y z
  | .ldImm y n => Instr.ofLdImm y n
  | .ldAtBcA => .ldAtBcA
  | .ldAtDeA => .ldAtDeA
  | .ldAAtBc => .ldAAtBc
  | .ldAAtDe => .ldAAtDe
  | .ldAtHliA => .ldAtHliA
  | .ldAtHldA => .ldAtHldA
  | .ldAAtHli => .ldAAtHli
  | .ldAAtHld => .ldAAtHld
  | .ldAtA16A a => .ldAtA16A a
  | .ldAAtA16 a => .ldAAtA16 a
  | .ldHlSpE8 e => .ldHlSpE8 e
  | .ldRp p v => Instr.ofLdRp p v
  | .ldAtA16Sp a => .ldAtA16Sp a
  | .ldSpHl => .ldSpHl
  | .inc y => Instr.ofInc y
  | .dec y => Instr.ofDec y
  | .incRp p => Instr.ofIncRp p
  | .decRp p => Instr.ofDecRp p
  | .alu op z => Instr.ofAlu op z
  | .aluImm op n => Instr.ofAluImm op n
  | .addHl p => Instr.ofAddHl p
  | .addSpE8 e => .addSpE8 e
  | .daa => .daa
  | .cpl => .cpl
  | .scf => .scf
  | .ccf => .ccf
  | .rlca => .rlca
  | .rrca => .rrca
  | .rla => .rla
  | .rra => .rra
  | .jr e => .jrE8 e
  | .jrCc k e => Instr.ofJr k e
  | .jp a => .jpA16 a
  | .jpHl => .jpHl
  | .jpCc k a => Instr.ofJp k a
  | .call a => .callA16 a
  | .callCc k a => Instr.ofCall k a
  | .ret => .ret
  | .retCc k => Instr.ofRet k
  | .reti => .reti
  | .rst y => Instr.ofRst y
  | .push p => Instr.ofPush p
  | .pop p => Instr.ofPop p
  | .ldhAtA8A o => .ldhAtA8A o
  | .ldhAAtA8 o => .ldhAAtA8 o
  | .ldAtCA => .ldAtCA
  | .ldAAtC => .ldAAtC
  | .prefixCb => .prefixCb
  | .rot op z => Instr.ofRot op z
  | .bit y z => Instr.ofBit y z
  | .res y z => Instr.ofRes y z
  | .set y z => Instr.ofSet y z
  | .nop => .nop
  | .halt => .halt
  | .stop n => .stop n
  | .di => .di
  | .ei => .ei

/-- The form of every instruction. -/
def Instr.form : Instr → Form
  | .nop => .nop
  | .ldBcD16 v => .ldRp .bc v
  | .ldAtBcA => .ldAtBcA
  | .incBc => .incRp .bc
  | .incB => .inc .b
  | .decB => .dec .b
  | .ldBD8 n => .ldImm .b n
  | .rlca => .rlca
  | .ldAtA16Sp a => .ldAtA16Sp a
  | .addHlBc => .addHl .bc
  | .ldAAtBc => .ldAAtBc
  | .decBc => .decRp .bc
  | .incC => .inc .c
  | .decC => .dec .c
  | .ldCD8 n => .ldImm .c n
  | .rrca => .rrca
  | .stop n => .stop n
  | .ldDeD16 v => .ldRp .de v
  | .ldAtDeA => .ldAtDeA
  | .incDe => .incRp .de
  | .incD => .inc .d
  | .decD => .dec .d
  | .ldDD8 n => .ldImm .d n
  | .rla => .rla
  | .jrE8 e => .jr e
  | .addHlDe => .addHl .de
  | .ldAAtDe => .ldAAtDe
  | .decDe => .decRp .de
  | .incE => .inc .e
  | .decE => .dec .e
  | .ldED8 n => .ldImm .e n
  | .rra => .rra
  | .jrNzE8 e => .jrCc .nz e
  | .ldHlD16 v => .ldRp .hl v
  | .ldAtHliA => .ldAtHliA
  | .incHl => .incRp .hl
  | .incH => .inc .h
  | .decH => .dec .h
  | .ldHD8 n => .ldImm .h n
  | .daa => .daa
  | .jrZE8 e => .jrCc .z e
  | .addHlHl => .addHl .hl
  | .ldAAtHli => .ldAAtHli
  | .decHl => .decRp .hl
  | .incL => .inc .l
  | .decL => .dec .l
  | .ldLD8 n => .ldImm .l n
  | .cpl => .cpl
  | .jrNcE8 e => .jrCc .nc e
  | .ldSpD16 v => .ldRp .sp v
  | .ldAtHldA => .ldAtHldA
  | .incSp => .incRp .sp
  | .incAtHl => .inc .atHl
  | .decAtHl => .dec .atHl
  | .ldAtHlD8 n => .ldImm .atHl n
  | .scf => .scf
  | .jrCE8 e => .jrCc .c e
  | .addHlSp => .addHl .sp
  | .ldAAtHld => .ldAAtHld
  | .decSp => .decRp .sp
  | .incA => .inc .a
  | .decA => .dec .a
  | .ldAD8 n => .ldImm .a n
  | .ccf => .ccf
  | .ldBB => .ld .b .b
  | .ldBC => .ld .b .c
  | .ldBD => .ld .b .d
  | .ldBE => .ld .b .e
  | .ldBH => .ld .b .h
  | .ldBL => .ld .b .l
  | .ldBAtHl => .ld .b .atHl
  | .ldBA => .ld .b .a
  | .ldCB => .ld .c .b
  | .ldCC => .ld .c .c
  | .ldCD => .ld .c .d
  | .ldCE => .ld .c .e
  | .ldCH => .ld .c .h
  | .ldCL => .ld .c .l
  | .ldCAtHl => .ld .c .atHl
  | .ldCA => .ld .c .a
  | .ldDB => .ld .d .b
  | .ldDC => .ld .d .c
  | .ldDD => .ld .d .d
  | .ldDE => .ld .d .e
  | .ldDH => .ld .d .h
  | .ldDL => .ld .d .l
  | .ldDAtHl => .ld .d .atHl
  | .ldDA => .ld .d .a
  | .ldEB => .ld .e .b
  | .ldEC => .ld .e .c
  | .ldED => .ld .e .d
  | .ldEE => .ld .e .e
  | .ldEH => .ld .e .h
  | .ldEL => .ld .e .l
  | .ldEAtHl => .ld .e .atHl
  | .ldEA => .ld .e .a
  | .ldHB => .ld .h .b
  | .ldHC => .ld .h .c
  | .ldHD => .ld .h .d
  | .ldHE => .ld .h .e
  | .ldHH => .ld .h .h
  | .ldHL => .ld .h .l
  | .ldHAtHl => .ld .h .atHl
  | .ldHA => .ld .h .a
  | .ldLB => .ld .l .b
  | .ldLC => .ld .l .c
  | .ldLD => .ld .l .d
  | .ldLE => .ld .l .e
  | .ldLH => .ld .l .h
  | .ldLL => .ld .l .l
  | .ldLAtHl => .ld .l .atHl
  | .ldLA => .ld .l .a
  | .ldAtHlB => .ld .atHl .b
  | .ldAtHlC => .ld .atHl .c
  | .ldAtHlD => .ld .atHl .d
  | .ldAtHlE => .ld .atHl .e
  | .ldAtHlH => .ld .atHl .h
  | .ldAtHlL => .ld .atHl .l
  | .halt => .halt
  | .ldAtHlA => .ld .atHl .a
  | .ldAB => .ld .a .b
  | .ldAC => .ld .a .c
  | .ldAD => .ld .a .d
  | .ldAE => .ld .a .e
  | .ldAH => .ld .a .h
  | .ldAL => .ld .a .l
  | .ldAAtHl => .ld .a .atHl
  | .ldAA => .ld .a .a
  | .addAB => .alu .add .b
  | .addAC => .alu .add .c
  | .addAD => .alu .add .d
  | .addAE => .alu .add .e
  | .addAH => .alu .add .h
  | .addAL => .alu .add .l
  | .addAAtHl => .alu .add .atHl
  | .addAA => .alu .add .a
  | .adcAB => .alu .adc .b
  | .adcAC => .alu .adc .c
  | .adcAD => .alu .adc .d
  | .adcAE => .alu .adc .e
  | .adcAH => .alu .adc .h
  | .adcAL => .alu .adc .l
  | .adcAAtHl => .alu .adc .atHl
  | .adcAA => .alu .adc .a
  | .subAB => .alu .sub .b
  | .subAC => .alu .sub .c
  | .subAD => .alu .sub .d
  | .subAE => .alu .sub .e
  | .subAH => .alu .sub .h
  | .subAL => .alu .sub .l
  | .subAAtHl => .alu .sub .atHl
  | .subAA => .alu .sub .a
  | .sbcAB => .alu .sbc .b
  | .sbcAC => .alu .sbc .c
  | .sbcAD => .alu .sbc .d
  | .sbcAE => .alu .sbc .e
  | .sbcAH => .alu .sbc .h
  | .sbcAL => .alu .sbc .l
  | .sbcAAtHl => .alu .sbc .atHl
  | .sbcAA => .alu .sbc .a
  | .andAB => .alu .and .b
  | .andAC => .alu .and .c
  | .andAD => .alu .and .d
  | .andAE => .alu .and .e
  | .andAH => .alu .and .h
  | .andAL => .alu .and .l
  | .andAAtHl => .alu .and .atHl
  | .andAA => .alu .and .a
  | .xorAB => .alu .xor .b
  | .xorAC => .alu .xor .c
  | .xorAD => .alu .xor .d
  | .xorAE => .alu .xor .e
  | .xorAH => .alu .xor .h
  | .xorAL => .alu .xor .l
  | .xorAAtHl => .alu .xor .atHl
  | .xorAA => .alu .xor .a
  | .orAB => .alu .or .b
  | .orAC => .alu .or .c
  | .orAD => .alu .or .d
  | .orAE => .alu .or .e
  | .orAH => .alu .or .h
  | .orAL => .alu .or .l
  | .orAAtHl => .alu .or .atHl
  | .orAA => .alu .or .a
  | .cpAB => .alu .cp .b
  | .cpAC => .alu .cp .c
  | .cpAD => .alu .cp .d
  | .cpAE => .alu .cp .e
  | .cpAH => .alu .cp .h
  | .cpAL => .alu .cp .l
  | .cpAAtHl => .alu .cp .atHl
  | .cpAA => .alu .cp .a
  | .retNz => .retCc .nz
  | .popBc => .pop .bc
  | .jpNzA16 a => .jpCc .nz a
  | .jpA16 a => .jp a
  | .callNzA16 a => .callCc .nz a
  | .pushBc => .push .bc
  | .addAD8 n => .aluImm .add n
  | .rst00 => .rst 0
  | .retZ => .retCc .z
  | .ret => .ret
  | .jpZA16 a => .jpCc .z a
  | .prefixCb => .prefixCb
  | .callZA16 a => .callCc .z a
  | .callA16 a => .call a
  | .adcAD8 n => .aluImm .adc n
  | .rst08 => .rst 1
  | .retNc => .retCc .nc
  | .popDe => .pop .de
  | .jpNcA16 a => .jpCc .nc a
  | .callNcA16 a => .callCc .nc a
  | .pushDe => .push .de
  | .subAD8 n => .aluImm .sub n
  | .rst10 => .rst 2
  | .retC => .retCc .c
  | .reti => .reti
  | .jpCA16 a => .jpCc .c a
  | .callCA16 a => .callCc .c a
  | .sbcAD8 n => .aluImm .sbc n
  | .rst18 => .rst 3
  | .ldhAtA8A o => .ldhAtA8A o
  | .popHl => .pop .hl
  | .ldAtCA => .ldAtCA
  | .pushHl => .push .hl
  | .andAD8 n => .aluImm .and n
  | .rst20 => .rst 4
  | .addSpE8 e => .addSpE8 e
  | .jpHl => .jpHl
  | .ldAtA16A a => .ldAtA16A a
  | .xorAD8 n => .aluImm .xor n
  | .rst28 => .rst 5
  | .ldhAAtA8 o => .ldhAAtA8 o
  | .popAf => .pop .af
  | .ldAAtC => .ldAAtC
  | .di => .di
  | .pushAf => .push .af
  | .orAD8 n => .aluImm .or n
  | .rst30 => .rst 6
  | .ldHlSpE8 e => .ldHlSpE8 e
  | .ldSpHl => .ldSpHl
  | .ldAAtA16 a => .ldAAtA16 a
  | .ei => .ei
  | .cpAD8 n => .aluImm .cp n
  | .rst38 => .rst 7
  | .rlcB => .rot .rlc .b
  | .rlcC => .rot .rlc .c
  | .rlcD => .rot .rlc .d
  | .rlcE => .rot .rlc .e
  | .rlcH => .rot .rlc .h
  | .rlcL => .rot .rlc .l
  | .rlcAtHl => .rot .rlc .atHl
  | .rlcA => .rot .rlc .a
  | .rrcB => .rot .rrc .b
  | .rrcC => .rot .rrc .c
  | .rrcD => .rot .rrc .d
  | .rrcE => .rot .rrc .e
  | .rrcH => .rot .rrc .h
  | .rrcL => .rot .rrc .l
  | .rrcAtHl => .rot .rrc .atHl
  | .rrcA => .rot .rrc .a
  | .rlB => .rot .rl .b
  | .rlC => .rot .rl .c
  | .rlD => .rot .rl .d
  | .rlE => .rot .rl .e
  | .rlH => .rot .rl .h
  | .rlL => .rot .rl .l
  | .rlAtHl => .rot .rl .atHl
  | .rlA => .rot .rl .a
  | .rrB => .rot .rr .b
  | .rrC => .rot .rr .c
  | .rrD => .rot .rr .d
  | .rrE => .rot .rr .e
  | .rrH => .rot .rr .h
  | .rrL => .rot .rr .l
  | .rrAtHl => .rot .rr .atHl
  | .rrA => .rot .rr .a
  | .slaB => .rot .sla .b
  | .slaC => .rot .sla .c
  | .slaD => .rot .sla .d
  | .slaE => .rot .sla .e
  | .slaH => .rot .sla .h
  | .slaL => .rot .sla .l
  | .slaAtHl => .rot .sla .atHl
  | .slaA => .rot .sla .a
  | .sraB => .rot .sra .b
  | .sraC => .rot .sra .c
  | .sraD => .rot .sra .d
  | .sraE => .rot .sra .e
  | .sraH => .rot .sra .h
  | .sraL => .rot .sra .l
  | .sraAtHl => .rot .sra .atHl
  | .sraA => .rot .sra .a
  | .swapB => .rot .swap .b
  | .swapC => .rot .swap .c
  | .swapD => .rot .swap .d
  | .swapE => .rot .swap .e
  | .swapH => .rot .swap .h
  | .swapL => .rot .swap .l
  | .swapAtHl => .rot .swap .atHl
  | .swapA => .rot .swap .a
  | .srlB => .rot .srl .b
  | .srlC => .rot .srl .c
  | .srlD => .rot .srl .d
  | .srlE => .rot .srl .e
  | .srlH => .rot .srl .h
  | .srlL => .rot .srl .l
  | .srlAtHl => .rot .srl .atHl
  | .srlA => .rot .srl .a
  | .bit0B => .bit 0 .b
  | .bit0C => .bit 0 .c
  | .bit0D => .bit 0 .d
  | .bit0E => .bit 0 .e
  | .bit0H => .bit 0 .h
  | .bit0L => .bit 0 .l
  | .bit0AtHl => .bit 0 .atHl
  | .bit0A => .bit 0 .a
  | .bit1B => .bit 1 .b
  | .bit1C => .bit 1 .c
  | .bit1D => .bit 1 .d
  | .bit1E => .bit 1 .e
  | .bit1H => .bit 1 .h
  | .bit1L => .bit 1 .l
  | .bit1AtHl => .bit 1 .atHl
  | .bit1A => .bit 1 .a
  | .bit2B => .bit 2 .b
  | .bit2C => .bit 2 .c
  | .bit2D => .bit 2 .d
  | .bit2E => .bit 2 .e
  | .bit2H => .bit 2 .h
  | .bit2L => .bit 2 .l
  | .bit2AtHl => .bit 2 .atHl
  | .bit2A => .bit 2 .a
  | .bit3B => .bit 3 .b
  | .bit3C => .bit 3 .c
  | .bit3D => .bit 3 .d
  | .bit3E => .bit 3 .e
  | .bit3H => .bit 3 .h
  | .bit3L => .bit 3 .l
  | .bit3AtHl => .bit 3 .atHl
  | .bit3A => .bit 3 .a
  | .bit4B => .bit 4 .b
  | .bit4C => .bit 4 .c
  | .bit4D => .bit 4 .d
  | .bit4E => .bit 4 .e
  | .bit4H => .bit 4 .h
  | .bit4L => .bit 4 .l
  | .bit4AtHl => .bit 4 .atHl
  | .bit4A => .bit 4 .a
  | .bit5B => .bit 5 .b
  | .bit5C => .bit 5 .c
  | .bit5D => .bit 5 .d
  | .bit5E => .bit 5 .e
  | .bit5H => .bit 5 .h
  | .bit5L => .bit 5 .l
  | .bit5AtHl => .bit 5 .atHl
  | .bit5A => .bit 5 .a
  | .bit6B => .bit 6 .b
  | .bit6C => .bit 6 .c
  | .bit6D => .bit 6 .d
  | .bit6E => .bit 6 .e
  | .bit6H => .bit 6 .h
  | .bit6L => .bit 6 .l
  | .bit6AtHl => .bit 6 .atHl
  | .bit6A => .bit 6 .a
  | .bit7B => .bit 7 .b
  | .bit7C => .bit 7 .c
  | .bit7D => .bit 7 .d
  | .bit7E => .bit 7 .e
  | .bit7H => .bit 7 .h
  | .bit7L => .bit 7 .l
  | .bit7AtHl => .bit 7 .atHl
  | .bit7A => .bit 7 .a
  | .res0B => .res 0 .b
  | .res0C => .res 0 .c
  | .res0D => .res 0 .d
  | .res0E => .res 0 .e
  | .res0H => .res 0 .h
  | .res0L => .res 0 .l
  | .res0AtHl => .res 0 .atHl
  | .res0A => .res 0 .a
  | .res1B => .res 1 .b
  | .res1C => .res 1 .c
  | .res1D => .res 1 .d
  | .res1E => .res 1 .e
  | .res1H => .res 1 .h
  | .res1L => .res 1 .l
  | .res1AtHl => .res 1 .atHl
  | .res1A => .res 1 .a
  | .res2B => .res 2 .b
  | .res2C => .res 2 .c
  | .res2D => .res 2 .d
  | .res2E => .res 2 .e
  | .res2H => .res 2 .h
  | .res2L => .res 2 .l
  | .res2AtHl => .res 2 .atHl
  | .res2A => .res 2 .a
  | .res3B => .res 3 .b
  | .res3C => .res 3 .c
  | .res3D => .res 3 .d
  | .res3E => .res 3 .e
  | .res3H => .res 3 .h
  | .res3L => .res 3 .l
  | .res3AtHl => .res 3 .atHl
  | .res3A => .res 3 .a
  | .res4B => .res 4 .b
  | .res4C => .res 4 .c
  | .res4D => .res 4 .d
  | .res4E => .res 4 .e
  | .res4H => .res 4 .h
  | .res4L => .res 4 .l
  | .res4AtHl => .res 4 .atHl
  | .res4A => .res 4 .a
  | .res5B => .res 5 .b
  | .res5C => .res 5 .c
  | .res5D => .res 5 .d
  | .res5E => .res 5 .e
  | .res5H => .res 5 .h
  | .res5L => .res 5 .l
  | .res5AtHl => .res 5 .atHl
  | .res5A => .res 5 .a
  | .res6B => .res 6 .b
  | .res6C => .res 6 .c
  | .res6D => .res 6 .d
  | .res6E => .res 6 .e
  | .res6H => .res 6 .h
  | .res6L => .res 6 .l
  | .res6AtHl => .res 6 .atHl
  | .res6A => .res 6 .a
  | .res7B => .res 7 .b
  | .res7C => .res 7 .c
  | .res7D => .res 7 .d
  | .res7E => .res 7 .e
  | .res7H => .res 7 .h
  | .res7L => .res 7 .l
  | .res7AtHl => .res 7 .atHl
  | .res7A => .res 7 .a
  | .set0B => .set 0 .b
  | .set0C => .set 0 .c
  | .set0D => .set 0 .d
  | .set0E => .set 0 .e
  | .set0H => .set 0 .h
  | .set0L => .set 0 .l
  | .set0AtHl => .set 0 .atHl
  | .set0A => .set 0 .a
  | .set1B => .set 1 .b
  | .set1C => .set 1 .c
  | .set1D => .set 1 .d
  | .set1E => .set 1 .e
  | .set1H => .set 1 .h
  | .set1L => .set 1 .l
  | .set1AtHl => .set 1 .atHl
  | .set1A => .set 1 .a
  | .set2B => .set 2 .b
  | .set2C => .set 2 .c
  | .set2D => .set 2 .d
  | .set2E => .set 2 .e
  | .set2H => .set 2 .h
  | .set2L => .set 2 .l
  | .set2AtHl => .set 2 .atHl
  | .set2A => .set 2 .a
  | .set3B => .set 3 .b
  | .set3C => .set 3 .c
  | .set3D => .set 3 .d
  | .set3E => .set 3 .e
  | .set3H => .set 3 .h
  | .set3L => .set 3 .l
  | .set3AtHl => .set 3 .atHl
  | .set3A => .set 3 .a
  | .set4B => .set 4 .b
  | .set4C => .set 4 .c
  | .set4D => .set 4 .d
  | .set4E => .set 4 .e
  | .set4H => .set 4 .h
  | .set4L => .set 4 .l
  | .set4AtHl => .set 4 .atHl
  | .set4A => .set 4 .a
  | .set5B => .set 5 .b
  | .set5C => .set 5 .c
  | .set5D => .set 5 .d
  | .set5E => .set 5 .e
  | .set5H => .set 5 .h
  | .set5L => .set 5 .l
  | .set5AtHl => .set 5 .atHl
  | .set5A => .set 5 .a
  | .set6B => .set 6 .b
  | .set6C => .set 6 .c
  | .set6D => .set 6 .d
  | .set6E => .set 6 .e
  | .set6H => .set 6 .h
  | .set6L => .set 6 .l
  | .set6AtHl => .set 6 .atHl
  | .set6A => .set 6 .a
  | .set7B => .set 7 .b
  | .set7C => .set 7 .c
  | .set7D => .set 7 .d
  | .set7E => .set 7 .e
  | .set7H => .set 7 .h
  | .set7L => .set 7 .l
  | .set7AtHl => .set 7 .atHl
  | .set7A => .set 7 .a

/-! ## The words of spec/opcode_table.json -/

/-- Byte `k` of a number whose byte 0 is its least significant byte. -/
def byteAt (w k : Nat) : Byte := BitVec.ofNat 8 (w / 256 ^ k)

/-- What an instruction of the table looks like to the engine: the space it is fetched in and its bytes. A secondary
row has two bytes, 0xCB and the opcode byte (R82), and the row itself is the second byte (R100). The table numbers
that row's word with the opcode byte lowest (its match is 0xCB37 for SWAP A); the two bytes in memory order, 0xCB
lowest, are read as well (log 9). -/
def tableBytes (nbits w : Nat) : Space × List Byte :=
  if nbits = 16 ∧ byteAt w 1 = 0xCB#8 then (.secondary, [byteAt w 0])
  else if nbits = 16 ∧ byteAt w 0 = 0xCB#8 then (.secondary, [byteAt w 1])
  else (.primary, [byteAt w 0, byteAt w 1, byteAt w 2])

/-- The instruction the decoder reads from a word of the table. -/
def decodeTableWord (nbits w : Nat) : Option Instr :=
  match decode (tableBytes nbits w).1 (tableBytes nbits w).2 with
  | .ok (i, _) => some i
  | .error _ => none

end Sys2Proof
end

