-- ==== Sys2Proof/Machine/Engine.lean ====
section
/-! DEFINITION. The start of an engine step (40_engine.md R110–R113, R115): the Halted step, the opcode fetch, the latch,
the decode, the decode failure and the immediate fetches. Also the placing of an instruction where the next step fetches
it. -/

namespace Sys2Proof.Machine

/-- What a step has come to when its instruction is known. -/
inductive Begun where
  /-- A Halted step, done. -/
  | idle (s : State)
  /-- The decode failed, and the failure is recorded. -/
  | failed (s : State)
  /-- The instruction to execute, and the state after its bytes are fetched. -/
  | run (i : Instr) (s : State)

/-- The space the next byte is decoded in (R113). -/
def State.decodeSpace (s : State) : Space := if s.cbLatch then .secondary else .primary

/-- The state after the opcode fetch and the latch clear (R112, R113). -/
def State.afterOpcode (s : State) : State := { s.afterFetchByte with cbLatch := false }

/-- The step up to the execution (R110). An instruction's immediates are fetched here, before its rule reads or writes
any other memory, which is the order of R112 and R121 (log 12). -/
def State.beginStep (s : State) : Begun :=
  match s.execState with
  | .halted => .idle { s with units := some 1 }
  | .running =>
    match lookup s.params s.decodeSpace s.fetchedByte with
    | none => .failed (s.afterOpcode.takeDecodeFailure s.decodeSpace s.fetchedByte)
    | some (.plain i) => .run i s.afterOpcode
    | some (.imm8 build) => .run (build s.afterOpcode.fetchedByte) s.afterOpcode.afterFetchByte
    | some (.imm16 build) => .run (build s.afterOpcode.fetchedWord) s.afterOpcode.afterFetchWord

/-! ## Placing an instruction (log 10) -/

/-- Whether a byte placed at an address is what a fetch there reads. -/
def State.placeable (s : State) (a : Word) : Bool := decide (regionOf s.overlayMapped a ≠ .unbacked)

/-- Whether `k` bytes from an address on are placeable. -/
def State.placeableFrom (s : State) (a : Word) : Nat → Bool
  | 0 => true
  | k + 1 => s.placeable a && s.placeableFrom (a + 1) k

/-- Put a byte where a fetch at the address reads it: in the boot image or in RAM. -/
def State.placeByte (s : State) (a : Word) (v : Byte) : State :=
  match regionOf s.overlayMapped a with
  | .overlay => { s with params := { s.params with bootRom := Memory.write s.params.bootRom a.toNat v } }
  | _ => s.writeByte a v

/-- Put bytes at an address and the ones after it. -/
def State.placeBytes (s : State) (a : Word) : List Byte → State
  | [] => s
  | v :: vs => (s.placeByte a v).placeBytes (a + 1) vs

/-- The state whose next step fetches the bytes in the space: Running, no fault recorded, the latch as the space needs
it, the bytes at PC. Where a byte at PC could not be placed, PC is moved to 0xC000, the start of WRAM. -/
def State.placeInstr (s : State) (sp : Space) (bytes : List Byte) : State :=
  let ready : State :=
    { s with
      execState := .running
      fault := none
      cbLatch := decide (sp = .secondary)
      pc := if s.placeableFrom s.pc bytes.length then s.pc else 0xC000#16 }
  ready.placeBytes ready.pc bytes

end Sys2Proof.Machine
end

