-- ==== Sys2Proof/Machine/Video.lean ====
section
/-! DEFINITION. The video timing state machine and the framebuffer (60_exceptions.md R279–R286). -/

namespace Sys2Proof.Machine

/-- `DUR(VMODE)`, in clock periods; in VBLANK it is one line-period (R281). -/
def VideoMode.duration : VideoMode → Nat
  | .oamScan => 80
  | .drawing => 172
  | .hblank => 204
  | .vblank => 456

/-- One pass of the loop of `VideoStep`, taken when VACC has reached the mode's duration (R282). -/
def Video.pass (v : Video) : Video :=
  match v.mode with
  | .oamScan => { v with mode := .drawing, acc := v.acc - VideoMode.duration .oamScan }
  | .drawing => { v with mode := .hblank, acc := v.acc - VideoMode.duration .drawing }
  | .hblank =>
    { mode := if v.line + 1 = 144 then .vblank else .oamScan
      line := v.line + 1
      acc := v.acc - VideoMode.duration .hblank }
  | .vblank =>
    if v.line + 1 = 154 then { mode := .oamScan, line := 0, acc := v.acc - VideoMode.duration .vblank }
    else { v with line := v.line + 1, acc := v.acc - VideoMode.duration .vblank }

/-- The loop of `VideoStep`, with a bound on its passes (R282). -/
def Video.loop : Nat → Video → Video
  | 0, v => v
  | k + 1, v => if v.acc < v.mode.duration then v else Video.loop k v.pass

/-- VACC after `t` more clock periods, then the loop. Each pass lowers VACC by at least 80 (R282), so `VACC / 80`
passes are enough (log 11). -/
def Video.advance (v : Video) (t : Nat) : Video :=
  Video.loop ((v.acc + t) / 80) { v with acc := v.acc + t }

/-- `VideoStep(n)` (R282); `VideoStep(0)` changes nothing. Each call redraws the framebuffer: every pixel takes a
value of the next PIXEL draw (R284, log 5). -/
def State.videoStep (s : State) (n : Nat) : State :=
  if n = 0 then s
  else
    { s with
      video := s.video.advance (n * s.params.tPerUnit.periods)
      fb := { draw := s.fb.draw + 1 } }

/-- The driver's part of `System::step()` after the CPU step: the returned count goes to the video state machine; a
failed step returned none (R287). -/
def State.driveVideo (s : State) : State :=
  match s.units with
  | some n => s.videoStep n
  | none => s

/-! ## The framebuffer -/

/-- `FB[i]`, a 32-bit value (R283, R284). -/
def State.pixel (s : State) (i : Nat) : BitVec 32 := Config.pixel s.fb.draw i

/-- `copy_framebuffer`: the `FB_WIDTH * FB_HEIGHT` pixels in row-major order, row 0 first (R286). It gives the pixels
and no state, so it changes nothing. -/
def State.copyFramebuffer (s : State) : List (BitVec 32) :=
  (List.range (s.params.fbWidth * s.params.fbHeight)).map s.pixel

/-- The red byte of a pixel `0x??RRGGBB` (R283). -/
def pixelRed (p : BitVec 32) : BitVec 8 := p.extractLsb' 16 8
/-- The green byte of a pixel (R283). -/
def pixelGreen (p : BitVec 32) : BitVec 8 := p.extractLsb' 8 8
/-- The blue byte of a pixel (R283). -/
def pixelBlue (p : BitVec 32) : BitVec 8 := p.extractLsb' 0 8

end Sys2Proof.Machine
end

