-- ==== Sys2Proof/Machine/Step.lean ====
section
/-! DEFINITION. One call of the driver's `System::step()` (60_exceptions.md R287): the engine's step (40_engine.md R110),
then the video state machine with the count it returned. -/

namespace Sys2Proof.Machine

/-- `System::step()`. In a state whose `FAULT` is set no step is taken, and the answer is that fault (10_state.md R29). A
step whose decode fails answers the state in which the failure is recorded (log 7). -/
def step (s : State) : Host.Outcome State Fault Refusal :=
  match s.fault with
  | some info => .fault (.decodeFailure info)
  | none =>
    match s.beginStep with
    | .idle t => .next t.driveVideo
    | .failed t => .next t.driveVideo
    | .run i t =>
      match exec i t with
      | .next u => .next u.driveVideo
      | .fault r => .fault r
      | .refused r => .refused r

/-- The state whose next step fetches and runs the instruction of a word of spec/opcode_table.json. -/
def State.withFetchWord (s : State) (nbits w : Nat) : State :=
  s.placeInstr (tableBytes nbits w).1 (tableBytes nbits w).2

end Sys2Proof.Machine
end

