-- ==== Sys2Proof/WellFormed.lean ====
section
/-! DEFINITION. Well-formedness. Every operand field admits every value (40_engine.md R120), so an instruction is ill
formed only where the parameters leave its byte unmapped (30_encoding.md R96). The parameters are well formed when
`BOOT_ROM` is a canonical image of 256 bytes and the bytes taken away are bytes of the table (00_scope.md R11). -/

namespace Sys2Proof

/-- `MAPPED` holds for the instruction's byte (R96). -/
def Instr.wf (p : Params) (i : Instr) : Bool := p.mapped i.space i.opcode

/-- `BOOT_ROM` lists offsets 0..255 in the canonical form (10_state.md R31). -/
def Params.bootRomWf (p : Params) : Bool :=
  decide (Machine.Memory.wf p.bootRom) && p.bootRom.all (fun c => decide (c.1 < 256))

/-- Every byte that `MAPPED` takes away has a row of the table (R11: `MAPPED` is about the table's bytes). -/
def Params.unmappedWf (p : Params) : Bool := p.unmapped.all (fun u => (entry u.1 u.2).isSome)

/-- The parameters are those of a machine the spec describes (R11). -/
def Params.wf (p : Params) : Bool := p.bootRomWf && p.unmappedWf

end Sys2Proof
end

