-- ==== Sys2Proof/Safety.lean ====
section
/-! DEFINITION. What counts as a good state and a safe run, in the terms the statements use. -/

namespace Sys2Proof.Machine

/-- The three outcomes of a run (60_exceptions.md R292). -/
inductive RunStatus where
  | faulted
  | idle
  | running
  deriving DecidableEq, Repr

/-- The outcome a state is in (R292). -/
def State.status (s : State) : RunStatus :=
  if s.fault ≠ none then .faulted else if s.execState = .halted then .idle else .running

/-- A cell of the backing storage: VRAM, WRAM or HRAM (10_state.md R32, R33). -/
def isCell (k : Nat) : Bool :=
  (decide (0x8000 ≤ k) && decide (k ≤ 0x9FFF)) || (decide (0xC000 ≤ k) && decide (k ≤ 0xDFFF)) ||
    (decide (0xFF80 ≤ k) && decide (k ≤ 0xFFFE))

/-- The video state is one the machine can be in: a line of the frame, VBLANK on lines 144..153 only, and less in the
accumulator than the mode lasts (60_exceptions.md R280, R282). -/
def Video.ok (v : Video) : Bool :=
  decide (v.line < 154) && (decide (v.mode = .vblank) == decide (144 ≤ v.line)) && decide (v.acc < v.mode.duration)

/-- The invariant of the machine: the low nibble of F is 0 (10_state.md R23), the storage is canonical and lists only
bytes that exist (R32, R33), and the video state is one the machine can be in. -/
structure State.Inv (s : State) : Prop where
  flags : s.f &&& 0x0F#8 = 0x00#8
  storage : Memory.wf s.mem
  cells : ∀ c ∈ s.mem, isCell c.1 = true
  video : s.video.ok = true

/-- A run is safe so far when no decode failure is recorded (R292). -/
def State.Safe (s : State) : Prop := s.fault = none

end Sys2Proof.Machine
end

