-- ==== Sys2Proof/Certificates/Slice0/Forms.lean ====
section
/-! DEFINITION. The words the statements of this slice are written in: field indexes of operands, F as a number, the
results of the arithmetic rules over the natural numbers, and, for each rule form, the addresses stored to, the registers
and flags written and the cost. Nothing here is used by the model. -/

namespace Sys2Proof.Statement

open Sys2Proof.Machine

/-! ## Operand indexes (30_encoding.md R84–R88) -/

/-- The index of an operand in `r8` (R84). -/
def r8Index : R8 → Nat
  | .b => 0 | .c => 1 | .d => 2 | .e => 3 | .h => 4 | .l => 5 | .atHl => 6 | .a => 7

/-- The index of a pair in `rp` (R85). -/
def rpIndex : Rp → Nat
  | .bc => 0 | .de => 1 | .hl => 2 | .sp => 3

/-- The index of a pair in `rp2` (R86). -/
def rp2Index : Rp2 → Nat
  | .bc => 0 | .de => 1 | .hl => 2 | .af => 3

/-- The index of a condition in `cc` (R87). -/
def ccIndex : Cc → Nat
  | .nz => 0 | .z => 1 | .nc => 2 | .c => 3

/-- The index of an operation in `alu` (R88). -/
def aluIndex : AluOp → Nat
  | .add => 0 | .adc => 1 | .sub => 2 | .sbc => 3 | .and => 4 | .xor => 5 | .or => 6 | .cp => 7

/-- The index of an operation in `rot` (R88). -/
def rotIndex : RotOp → Nat
  | .rlc => 0 | .rrc => 1 | .rl => 2 | .rr => 3 | .sla => 4 | .sra => 5 | .swap => 6 | .srl => 7

/-- A byte given as a number. -/
def byte (n : Nat) : Byte := BitVec.ofNat 8 n

/-- A word given as a number. -/
def word (n : Nat) : Word := BitVec.ofNat 16 n

/-- F with given flags: Z 128, N 64, H 32, C 16, bits 3..0 clear (10_state.md R22). -/
def flagByte (z n h c : Bool) : Byte := byte (128 * z.toNat + 64 * n.toNat + 32 * h.toNat + 16 * c.toNat)

/-- The outcome is the state `t` with the count `costT / T_PER_UNIT` returned. -/
def answers (o : Host.Outcome State Fault Refusal) (t : State) (costT : Nat) : Prop :=
  o = .next { t with units := some (costT / t.params.tPerUnit.periods) }

/-! ## Addresses (20_memory.md R52) -/

/-- The address is in the echo range. -/
def inEcho (a : Word) : Prop := 0xE000 ≤ a.toNat ∧ a.toNat ≤ 0xFDFF

/-- The address has RAM behind it: VRAM, WRAM, its echo, or HRAM. -/
def backed (a : Word) : Prop :=
  (0x8000 ≤ a.toNat ∧ a.toNat ≤ 0x9FFF) ∨ (0xC000 ≤ a.toNat ∧ a.toNat ≤ 0xDFFF) ∨ inEcho a ∨
    (0xFF80 ≤ a.toNat ∧ a.toNat ≤ 0xFFFE)

/-- Two addresses reach the same byte of RAM: equal, or one the echo of the other. -/
def sameByte (a b : Word) : Prop :=
  backed a ∧ (a = b ∨ (inEcho a ∧ b.toNat + 0x2000 = a.toNat) ∨ (inEcho b ∧ a.toNat + 0x2000 = b.toNat))

/-! ## Results over the natural numbers (43_alu.md, 42_incdec.md, 48_prefix_cb.md) -/

/-- The value of A and the flags Z, N, H, C after an ALU operation on `a`, `v` and the carry `k` (R170–R177). -/
def aluSpec (op : AluOp) (a v k : Nat) : Nat × Bool × Bool × Bool × Bool :=
  match op with
  | .add => ((a + v) % 256, (a + v) % 256 = 0, false, a % 16 + v % 16 > 15, a + v > 255)
  | .adc => ((a + v + k) % 256, (a + v + k) % 256 = 0, false, a % 16 + v % 16 + k > 15, a + v + k > 255)
  | .sub => ((a + 256 - v) % 256, (a + 256 - v) % 256 = 0, true, a % 16 < v % 16, a < v)
  | .sbc => ((a + 512 - v - k) % 256, (a + 512 - v - k) % 256 = 0, true, a % 16 < v % 16 + k, a < v + k)
  | .and => (a &&& v, a &&& v = 0, false, true, false)
  | .xor => (a ^^^ v, a ^^^ v = 0, false, false, false)
  | .or => (a ||| v, a ||| v = 0, false, false, false)
  | .cp => (a, (a + 256 - v) % 256 = 0, true, a % 16 < v % 16, a < v)

/-- The result and the C flag of a rotate or shift of `v` with the carry `k` (R241–R248). -/
def rotSpec (op : RotOp) (v k : Nat) : Nat × Bool :=
  match op with
  | .rlc => (v * 2 % 256 + v / 128, v / 128 = 1)
  | .rrc => (v / 2 + v % 2 * 128, v % 2 = 1)
  | .rl => (v * 2 % 256 + k, v / 128 = 1)
  | .rr => (v / 2 + k * 128, v % 2 = 1)
  | .sla => (v * 2 % 256, v / 128 = 1)
  | .sra => (v / 2 + v / 128 * 128, v % 2 = 1)
  | .swap => (v % 16 * 16 + v / 16, false)
  | .srl => (v / 2, v % 2 = 1)

/-- A and C after `DAA` (R180). -/
def daaSpec (a : Nat) (n h c : Bool) : Nat × Bool :=
  if n then ((a + 256 - ((if c then 0x60 else 0) + (if h then 6 else 0))) % 256, c)
  else ((a + ((if c ∨ a > 0x99 then 0x60 else 0) + (if h ∨ a % 16 > 9 then 6 else 0))) % 256, c || a > 0x99)

/-- The BCD code of a number below 100. -/
def bcd (n : Nat) : Byte := byte (n / 10 * 16 + n % 10)

/-! ## What each form stores, writes and costs -/

/-- The addresses a form stores a byte to, from the state its execution starts in. -/
def storedTo (f : Form) (s : State) : List Word :=
  match f with
  | .ld y z => if y = .atHl ∧ z ≠ .atHl then [s.hl] else []
  | .ldImm y _ => if y = .atHl then [s.hl] else []
  | .ldAtBcA => [s.bc]
  | .ldAtDeA => [s.de]
  | .ldAtHliA => [s.hl]
  | .ldAtHldA => [s.hl]
  | .ldAtA16A a => [a]
  | .ldAtA16Sp a => [a + 1, a]
  | .inc y => if y = .atHl then [s.hl] else []
  | .dec y => if y = .atHl then [s.hl] else []
  | .call _ => [s.sp - 1, s.sp - 2]
  | .callCc k _ => if s.cond k then [s.sp - 1, s.sp - 2] else []
  | .rst _ => [s.sp - 1, s.sp - 2]
  | .push _ => [s.sp - 1, s.sp - 2]
  | .ldhAtA8A o => [word (0xFF00 + o.toNat)]
  | .ldAtCA => [word (0xFF00 + s.c.toNat)]
  | .rot _ z => if z = .atHl then [s.hl] else []
  | .res _ z => if z = .atHl then [s.hl] else []
  | .set _ z => if z = .atHl then [s.hl] else []
  | .ldAAtBc | .ldAAtDe | .ldAAtHli | .ldAAtHld | .ldAAtA16 _ | .ldHlSpE8 _ | .ldRp _ _ | .ldSpHl | .incRp _ | .decRp _
  | .alu _ _ | .aluImm _ _ | .addHl _ | .addSpE8 _ | .daa | .cpl | .scf | .ccf | .rlca | .rrca | .rla | .rra | .jr _
  | .jrCc _ _ | .jp _ | .jpHl | .jpCc _ _ | .ret | .retCc _ | .reti | .pop _ | .ldhAAtA8 _ | .ldAAtC | .prefixCb | .bit _ _
  | .nop | .halt | .stop _ | .di | .ei => []

/-- Everything an instruction can write besides F, memory, `OVERLAY_MAPPED` and the count returned. -/
inductive Reg where
  | a | b | c | d | e | h | l | sp | pc | execState | ime | cbLatch
  deriving DecidableEq, Repr

/-- The registers are equal in the two states. -/
def Reg.same : Reg → State → State → Prop
  | .a, s, t => t.a = s.a
  | .b, s, t => t.b = s.b
  | .c, s, t => t.c = s.c
  | .d, s, t => t.d = s.d
  | .e, s, t => t.e = s.e
  | .h, s, t => t.h = s.h
  | .l, s, t => t.l = s.l
  | .sp, s, t => t.sp = s.sp
  | .pc, s, t => t.pc = s.pc
  | .execState, s, t => t.execState = s.execState
  | .ime, s, t => t.ime = s.ime
  | .cbLatch, s, t => t.cbLatch = s.cbLatch

/-- The register an 8-bit operand names; none for `(HL)`. -/
def r8Regs : R8 → List Reg
  | .b => [.b] | .c => [.c] | .d => [.d] | .e => [.e] | .h => [.h] | .l => [.l] | .atHl => [] | .a => [.a]

/-- The registers a pair names. -/
def rpRegs : Rp → List Reg
  | .bc => [.b, .c] | .de => [.d, .e] | .hl => [.h, .l] | .sp => [.sp]

/-- The registers, besides F, that a pair of `rp2` names. -/
def rp2Regs : Rp2 → List Reg
  | .bc => [.b, .c] | .de => [.d, .e] | .hl => [.h, .l] | .af => [.a]

/-- The registers a form may write (10_state.md R25, and the form's own rule). -/
def writesRegs (f : Form) : List Reg :=
  match f with
  | .ld y z => if y = .atHl ∧ z = .atHl then [.execState] else r8Regs y
  | .ldImm y _ => r8Regs y
  | .ldAtHliA | .ldAtHldA => [.h, .l]
  | .ldAAtHli | .ldAAtHld => [.a, .h, .l]
  | .ldAAtBc | .ldAAtDe | .ldAAtA16 _ | .ldhAAtA8 _ | .ldAAtC => [.a]
  | .ldHlSpE8 _ | .addHl _ => [.h, .l]
  | .ldRp p _ => rpRegs p
  | .incRp p => rpRegs p
  | .decRp p => rpRegs p
  | .inc y => r8Regs y
  | .dec y => r8Regs y
  | .alu op _ => if op = .cp then [] else [.a]
  | .aluImm op _ => if op = .cp then [] else [.a]
  | .ldSpHl | .addSpE8 _ => [.sp]
  | .daa | .cpl | .rlca | .rrca | .rla | .rra => [.a]
  | .jr _ | .jrCc _ _ | .jp _ | .jpHl | .jpCc _ _ => [.pc]
  | .call _ | .callCc _ _ | .ret | .retCc _ | .rst _ => [.pc, .sp]
  | .reti => [.pc, .sp, .ime]
  | .push _ => [.sp]
  | .pop p => .sp :: rp2Regs p
  | .prefixCb => [.cbLatch]
  | .rot _ z => r8Regs z
  | .res _ z => r8Regs z
  | .set _ z => r8Regs z
  | .halt | .stop _ => [.execState]
  | .di | .ei => [.ime]
  | .ldAtBcA | .ldAtDeA | .ldAtA16A _ | .ldAtA16Sp _ | .scf | .ccf | .ldhAtA8A _ | .ldAtCA | .bit _ _ | .nop => []

/-- The form writes Z (10_state.md R24). -/
def writesZ (f : Form) : Bool :=
  match f with
  | .inc _ | .dec _ | .alu _ _ | .aluImm _ _ | .daa | .addSpE8 _ | .ldHlSpE8 _ | .rlca | .rrca | .rla | .rra | .rot _ _
  | .bit _ _ => true
  | .pop p => decide (p = .af)
  | .ld _ _ | .ldImm _ _ | .ldAtBcA | .ldAtDeA | .ldAAtBc | .ldAAtDe | .ldAtHliA | .ldAtHldA | .ldAAtHli | .ldAAtHld
  | .ldAtA16A _ | .ldAAtA16 _ | .ldRp _ _ | .ldAtA16Sp _ | .ldSpHl | .incRp _ | .decRp _ | .addHl _ | .cpl | .scf | .ccf
  | .jr _ | .jrCc _ _ | .jp _ | .jpHl | .jpCc _ _ | .call _ | .callCc _ _ | .ret | .retCc _ | .reti | .rst _ | .push _
  | .ldhAtA8A _ | .ldhAAtA8 _ | .ldAtCA | .ldAAtC | .prefixCb | .res _ _ | .set _ _ | .nop | .halt | .stop _ | .di
  | .ei => false

/-- The form writes N: the writers of Z, and CPL, SCF, CCF and ADD HL,rr (R24). -/
def writesN (f : Form) : Bool :=
  writesZ f || match f with
    | .cpl | .scf | .ccf | .addHl _ => true
    | _ => false

/-- The form writes H: the same writers as N (R24). -/
def writesH (f : Form) : Bool := writesN f

/-- The form writes C (R24). -/
def writesC (f : Form) : Bool :=
  match f with
  | .alu _ _ | .aluImm _ _ | .addHl _ | .addSpE8 _ | .ldHlSpE8 _ | .daa | .scf | .ccf | .rlca | .rrca | .rla | .rra
  | .rot _ _ => true
  | .pop p => decide (p = .af)
  | .ld _ _ | .ldImm _ _ | .ldAtBcA | .ldAtDeA | .ldAAtBc | .ldAAtDe | .ldAtHliA | .ldAtHldA | .ldAAtHli | .ldAAtHld
  | .ldAtA16A _ | .ldAAtA16 _ | .ldRp _ _ | .ldAtA16Sp _ | .ldSpHl | .inc _ | .dec _ | .incRp _ | .decRp _ | .cpl
  | .jr _ | .jrCc _ _ | .jp _ | .jpHl | .jpCc _ _ | .call _ | .callCc _ _ | .ret | .retCc _ | .reti | .rst _ | .push _
  | .ldhAtA8A _ | .ldhAAtA8 _ | .ldAtCA | .ldAAtC | .prefixCb | .bit _ _ | .res _ _ | .set _ _ | .nop | .halt | .stop _
  | .di | .ei => false

/-- The cost pair (base, alt) of a form in clock periods, row by row of the cycle table (30_encoding.md R104). -/
def costT (f : Form) : Nat × Nat :=
  match f with
  | .nop | .rlca | .rrca | .rla | .rra | .daa | .cpl | .scf | .ccf | .halt | .stop _ | .di | .ei | .jpHl | .prefixCb => (4, 4)
  | .ld y z => if y = .atHl ∧ z = .atHl then (4, 4) else if y = .atHl ∨ z = .atHl then (8, 8) else (4, 4)
  | .inc y => if y = .atHl then (12, 12) else (4, 4)
  | .dec y => if y = .atHl then (12, 12) else (4, 4)
  | .alu _ z => if z = .atHl then (8, 8) else (4, 4)
  | .aluImm _ _ | .ldAtBcA | .ldAtDeA | .ldAAtBc | .ldAAtDe | .ldAtHliA | .ldAtHldA | .ldAAtHli | .ldAAtHld | .incRp _
  | .decRp _ | .addHl _ | .ldSpHl | .ldAtCA | .ldAAtC => (8, 8)
  | .ldImm y _ => if y = .atHl then (12, 12) else (8, 8)
  | .ldRp _ _ | .ldhAtA8A _ | .ldhAAtA8 _ | .pop _ | .ldHlSpE8 _ | .jr _ => (12, 12)
  | .jrCc _ _ => (12, 8)
  | .jp _ | .ret | .reti | .rst _ | .push _ | .addSpE8 _ | .ldAtA16A _ | .ldAAtA16 _ => (16, 16)
  | .jpCc _ _ => (16, 12)
  | .ldAtA16Sp _ => (20, 20)
  | .retCc _ => (20, 8)
  | .call _ => (24, 24)
  | .callCc _ _ => (24, 12)
  | .rot _ z => if z = .atHl then (12, 12) else (4, 4)
  | .res _ z => if z = .atHl then (12, 12) else (4, 4)
  | .set _ z => if z = .atHl then (12, 12) else (4, 4)
  | .bit _ z => if z = .atHl then (8, 8) else (4, 4)

/-- Whether the form transfers control by a condition that fails in the state (30_encoding.md R102). -/
def notTaken (f : Form) (s : State) : Bool :=
  match f with
  | .jrCc k _ => !s.cond k
  | .jpCc k _ => !s.cond k
  | .callCc k _ => !s.cond k
  | .retCc k => !s.cond k
  | _ => false

/-! ## Views of a state -/

/-- The state without what no program can see of timing: the video state, the framebuffer, the count returned and the
parameters only they depend on (60_exceptions.md R285, 70_reset_and_hazards.md R314). -/
def cpuView (s : State) : State :=
  { s with
    video := { mode := .oamScan, line := 0, acc := 0 }
    fb := { draw := 0 }
    units := none
    params := { s.params with tPerUnit := .four, fbWidth := 0, fbHeight := 0 } }

/-- The state without `IME`. -/
def withoutIme (s : State) : State := { s with ime := false }

/-- Two outcomes are the same once states are seen through `view`. -/
def sameThrough (view : State → State) (o p : Host.Outcome State Fault Refusal) : Prop :=
  match o, p with
  | .next t, .next u => view t = view u
  | .fault r, .fault q => r = q
  | .refused r, .refused q => r = q
  | _, _ => False

/-- Where in its line-period a mode starts (60_exceptions.md R280, R281). -/
def modeStart : VideoMode → Nat
  | .oamScan => 0
  | .drawing => 80
  | .hblank => 252
  | .vblank => 0

/-- The clock periods since the frame began: 456 for each line before this one, and the place in the line. -/
def framePosition (v : Video) : Nat := v.line * 456 + modeStart v.mode + v.acc

end Sys2Proof.Statement
end

