-- ==== Sys2Proof/Certificates/Slice0/Obligations.lean ====
section
/-! DEFINITION. The statements about the model, each a proposition; nothing is proved here. Statements about an
instruction start from the state after its bytes are fetched, where `exec` starts; `StepRunsDecodedInstruction` joins
them to `step`. They hold for every value of the parameters, which the state carries. -/

open Sys2Proof Sys2Proof.Machine Sys2Proof.Statement

/-! ## Encoding -/

/-- The operand tables `r8`, `rp`, `rp2` (30_encoding.md R84, R85, R86): what index i reads, and what it writes; and the
four conditions of `cc`, which test bits 7 and 4 of F (R87). -/
def Obligations.OperandTablesReadAndWrite : Prop :=
  ∀ (s : State) (v : Byte) (w : Word),
    ([0, 1, 2, 3, 4, 5, 6, 7].map (fun i => s.readR8 (R8.ofField i)) =
      [s.b, s.c, s.d, s.e, s.h, s.l, s.readByte s.hl, s.a]) ∧
    ([0, 1, 2, 3, 4, 5, 6, 7].map (fun i => s.writeR8 (R8.ofField i) v) =
      [{ s with b := v }, { s with c := v }, { s with d := v }, { s with e := v }, { s with h := v }, { s with l := v },
        s.writeByte s.hl v, { s with a := v }]) ∧
    ([0, 1, 2, 3].map (fun p => s.readRp (Rp.ofField p)) = [s.bc, s.de, s.hl, s.sp]) ∧
    ([0, 1, 2, 3].map (fun p => s.writeRp (Rp.ofField p) w) =
      [{ s with b := hi8 w, c := lo8 w }, { s with d := hi8 w, e := lo8 w }, { s with h := hi8 w, l := lo8 w },
        { s with sp := w }]) ∧
    ([0, 1, 2, 3].map (fun p => s.readRp2 (Rp2.ofField p)) = [s.bc, s.de, s.hl, s.af]) ∧
    ([0, 1, 2, 3].map (fun p => s.writeRp2 (Rp2.ofField p) w) =
      [{ s with b := hi8 w, c := lo8 w }, { s with d := hi8 w, e := lo8 w }, { s with h := hi8 w, l := lo8 w },
        { s with a := hi8 w, f := lo8 w &&& 0xF0#8 }]) ∧
    (s.cond .nz = true ↔ s.f.toNat / 128 % 2 = 0) ∧ (s.cond .z = true ↔ s.f.toNat / 128 % 2 = 1) ∧
    (s.cond .nc = true ↔ s.f.toNat / 16 % 2 = 0) ∧ (s.cond .c = true ↔ s.f.toNat / 16 % 2 = 1)

/-- Decoding the bytes of any instruction, with every operand at every value, gives it back and leaves the bytes that
follow (30_encoding.md R82, R83, R89–R93). -/
def Obligations.DecodeOfEncodeIsTheInstruction : Prop :=
  ∀ (i : Instr) (rest : List Byte), decode i.space (encode i ++ rest) = .ok (i, rest)

/-- Bytes that decode to an instruction are that instruction's bytes, in its space: every encoding has one meaning
(30_encoding.md R95, R96). -/
def Obligations.DecodedBytesAreTheEncoding : Prop :=
  ∀ (sp : Space) (bytes rest : List Byte) (i : Instr),
    decode sp bytes = .ok (i, rest) → i.space = sp ∧ bytes = encode i ++ rest

/-- Every instruction is the instruction of its rule form, so that the statements about forms cover all of `Instr`. -/
def Obligations.EveryInstructionHasItsForm : Prop := ∀ i : Instr, i.form.instr = i

/-- Exactly the eleven listed primary bytes, and no secondary byte, have no entry; decoding one of them, or a byte for
which `MAPPED` is false, answers absent, and the step that fetched it takes the decode failure instead of executing
anything (30_encoding.md R94). -/
def Obligations.IllegalBytesFailToDecode : Prop :=
  (∀ b : Byte, entry .primary b = none ↔
    b ∈ [0xD3#8, 0xDB#8, 0xDD#8, 0xE3#8, 0xE4#8, 0xEB#8, 0xEC#8, 0xED#8, 0xF4#8, 0xFC#8, 0xFD#8]) ∧
  (∀ b : Byte, entry .secondary b ≠ none) ∧
  (∀ (p : Params) (sp : Space) (b : Byte), lookup p sp b = none ↔ entry sp b = none ∨ p.mapped sp b = false) ∧
  (∀ s : State, s.execState = .running → lookup s.params s.decodeSpace (s.readByte s.pc) = none →
    s.beginStep = .failed (s.afterOpcode.takeDecodeFailure s.decodeSpace (s.readByte s.pc)))

/-- The length of a primary instruction is told by its first byte, a secondary-space opcode is one byte after its
prefix, and an illegal byte is refused by itself (30_encoding.md section 5). -/
def Obligations.LengthFollowsFromFirstByte : Prop :=
  ∀ i : Instr,
    (i.space = .primary → i.byteLength =
      if i.opcode ∈ [0x06#8, 0x0E#8, 0x16#8, 0x1E#8, 0x26#8, 0x2E#8, 0x36#8, 0x3E#8] ∨
          i.opcode ∈ [0x18#8, 0x20#8, 0x28#8, 0x30#8, 0x38#8] ∨
          i.opcode ∈ [0xC6#8, 0xCE#8, 0xD6#8, 0xDE#8, 0xE6#8, 0xEE#8, 0xF6#8, 0xFE#8] ∨
          i.opcode ∈ [0xE0#8, 0xF0#8, 0xE8#8, 0xF8#8, 0x10#8] then 2
      else if i.opcode ∈ [0x01#8, 0x11#8, 0x21#8, 0x31#8, 0x08#8] ∨
          i.opcode ∈ [0xC2#8, 0xC3#8, 0xCA#8, 0xD2#8, 0xDA#8] ∨
          i.opcode ∈ [0xC4#8, 0xCC#8, 0xCD#8, 0xD4#8, 0xDC#8] ∨ i.opcode ∈ [0xEA#8, 0xFA#8] then 3
      else 1) ∧
    (i.space = .secondary → i.byteLength = 1) ∧
    (∀ (b : Byte) (rest : List Byte), entry .primary b = none →
      decode .primary (b :: rest) = .error (.noEntry .primary b))

/-- A few words, bit by bit from the encodings of the rules, decode to the instructions they stand for. -/
def Obligations.SampleWordsDecode : Prop :=
  decode .primary [0b01111000#8] = .ok (.ldAB, []) ∧
  decode .primary [0b00110001#8, 0xFE#8, 0xFF#8] = .ok (.ldSpD16 0xFFFE#16, []) ∧
  decode .primary [0b00100000#8, 0b11111100#8] = .ok (.jrNzE8 0xFC#8, []) ∧
  decode .primary [0b10011100#8] = .ok (.sbcAH, []) ∧
  decode .primary [0b11110001#8] = .ok (.popAf, []) ∧
  decode .primary [0b11011100#8, 0x00#8, 0xC1#8] = .ok (.callCA16 0xC100#16, []) ∧
  decode .primary [0b11101111#8] = .ok (.rst28, []) ∧
  decode .secondary [0b01111100#8] = .ok (.bit7H, []) ∧
  decode .secondary [0b11011110#8] = .ok (.set3AtHl, []) ∧
  decode .secondary [0b11001011#8] = .ok (.set1E, []) ∧
  decode .primary [0b11010011#8] = .error (.noEntry .primary 0xD3#8)

/-! ## The step -/

/-- When the bytes at PC are those of an instruction of the space the latch selects, and its byte is mapped, the step
is that instruction's execution from the state with PC past its bytes and the latch clear (40_engine.md section 1 and
section 2), then the video state machine with the count returned. That one step is the engine's step and then
`VideoStep`, in this order, is the model's choice, log 8 (DEDUCED): it follows 60_exceptions.md section 5, where the
order is the spec's own reading, decision D4. -/
def Obligations.StepRunsDecodedInstruction : Prop :=
  ∀ (s : State) (i : Instr), s.fault = none → s.execState = .running → s.decodeSpace = i.space →
    i.wf s.params = true →
    (∀ k : Fin i.byteLength, s.readByte (s.pc + word k.val) = (encode i)[k.val]'k.isLt) →
    step s =
      match exec i { s with pc := s.pc + word i.byteLength, cbLatch := false } with
      | .next t => .next t.driveVideo
      | .fault r => .fault r
      | .refused r => .refused r

/-- HALT enters the Halted state, at 4 clock periods (49_control.md R261). In a Halted state the engine's step fetches
nothing and changes nothing, and it returns 1, whatever `T_PER_UNIT` is; so does every step after it (40_engine.md
R111). -/
def Obligations.HaltedStepOnlyReturnsOne : Prop :=
  ∀ s : State,
    encode .halt = [0x76#8] ∧ answers (exec .halt s) { s with execState := .halted } 4 ∧
    (s.execState = .halted →
      s.beginStep = .idle { s with units := some 1 } ∧
      State.beginStep { s with units := some 1 } = .idle { s with units := some 1 })

/-- A step of a Halted machine hands the count 1 to the video state machine, and however long it runs, only the video
state, the framebuffer and the returned count change, and its status stays idle (60_exceptions.md section 1 and section
5). That the step includes `VideoStep`, after the engine, is the model's choice, log 8 (DEDUCED; the spec's own decision
D4); the status idle is the spec's own decision D14. -/
def Obligations.HaltedMachineStaysIdle : Prop :=
  ∀ (k : Nat) (s : State), s.fault = none → s.execState = .halted →
    step s = .next (State.videoStep { s with units := some 1 } 1) ∧
    ∃ t : State, core.run k s = .next t ∧
      t = { s with video := t.video, fb := t.fb, units := t.units } ∧ t.status = .idle

/-- A decode failure: PC is past the offending byte, the latch is clear, the record holds the space, the byte, the
register state and the latch value consumed, no count is returned, and nothing else changes, the video state included
(40_engine.md section 1, 60_exceptions.md section 1). That the failing step answers a next state is the model's choice,
log 7 (DESIGN CHOICE), and that it runs no `VideoStep` is log 8 (DEDUCED; the spec's own decision D4); what the record
holds is the spec's own decision D18. -/
def Obligations.DecodeFailureIsRecorded : Prop :=
  ∀ s : State, s.fault = none → s.execState = .running →
    lookup s.params s.decodeSpace (s.readByte s.pc) = none →
    step s = .next
      { s with
        pc := s.pc + 1
        cbLatch := false
        units := none
        fault := some
          { space := s.decodeSpace, byte := s.readByte s.pc, a := s.a, f := s.f, b := s.b, c := s.c, d := s.d, e := s.e,
            h := s.h, l := s.l, sp := s.sp, pc := s.pc + 1, execState := s.execState, latch := s.cbLatch } }

/-- `FAULT` is terminal and is written by a failing decode only: a step answers a fault exactly where one is recorded,
with cause code 1, and a step that answers a state records a fault exactly where the engine runs and the decode fails
(10_state.md section 2; 60_exceptions.md section 1). That the failing step itself answers a next state, and the fault is
the answer of every later step, is the model's choice, log 7 (DESIGN CHOICE); the cause code and that the fault is
terminal are the spec's own decisions D18 and D23. -/
def Obligations.FaultIsTerminalAndOnlyFromDecode : Prop :=
  (∀ (s : State) (r : Fault), step s = .fault r ↔ ∃ info, s.fault = some info ∧ r = .decodeFailure info) ∧
  (∀ r : Fault, r.code = 1) ∧
  (∀ s t : State, step s = .next t →
    (t.fault ≠ none ↔ s.execState = .running ∧ lookup s.params s.decodeSpace (s.readByte s.pc) = none))

/-! ## Power-on and the invariant -/

/-- Power-on (10_state.md section 6, 70_reset_and_hazards.md section 1), for all parameters and all initial RAM
contents, and its first fetch, of `BOOT_ROM[0]` in the primary space; the state after reset is the one for the
default parameters (log 3 and log 4 choose its empty boot image and RAM). IME 0 and VACC 0 are the spec's own
decisions D16 and D12. -/
def Obligations.PowerOnState : Prop :=
  ∀ (p : Params) (ram : Memory),
    let s := State.powerOn p ram
    s.a = 0 ∧ s.f = 0 ∧ s.b = 0 ∧ s.c = 0 ∧ s.d = 0 ∧ s.e = 0 ∧ s.h = 0 ∧ s.l = 0 ∧ s.pc = 0x0000#16 ∧
    s.sp = 0xFFFE#16 ∧ s.flagZ = false ∧ s.flagN = false ∧ s.flagH = false ∧ s.flagC = false ∧
    s.execState = .running ∧ s.ime = false ∧ s.cbLatch = false ∧ s.fault = none ∧ s.overlayMapped = true ∧
    s.mem = ram ∧ s.video.mode = .oamScan ∧ s.video.line = 0 ∧ s.video.acc = 0 ∧ s.params = p ∧ s.status = .running ∧
    s.fetchedByte = Memory.read p.bootRom 0 ∧ s.decodeSpace = .primary ∧
    State.reset = State.powerOn Params.standard []

/-- The invariant holds at power-on, whatever canonical contents RAM has. -/
def Obligations.InvariantHoldsAtPowerOn : Prop :=
  ∀ (p : Params) (ram : Memory), Memory.wf ram → (∀ c ∈ ram, isCell c.1 = true) → (State.powerOn p ram).Inv

/-- Every step keeps the invariant: the low nibble of F is 0, the storage is canonical and lists only RAM bytes, and
the video state is one the machine can be in (10_state.md section 1 and section 3; 60_exceptions.md section 4). F is
masked at each write, log 13 (DEDUCED; the spec's own decision D25), the modes' durations and the line numbers are
the spec's own decision D12, and the step includes `VideoStep`, log 8 (DEDUCED; decision D4). -/
def Obligations.EveryStepKeepsTheInvariant : Prop := ∀ s t : State, s.Inv → step s = .next t → t.Inv

/-! ## Registers and flags -/

/-- The flags stand at bits 7, 6, 5 and 4 of F (10_state.md R22), and a write to F clears bits 3..0. That the low nibble
is masked at the write, and not at the read, is the model's choice, log 13 (DEDUCED): it follows 10_state.md section 1,
where it is the spec's own decision D25. -/
def Obligations.FlagsStandInTheHighNibble : Prop :=
  ∀ (s : State) (z n h c : Bool) (v : Byte),
    (s.setFlags z n h c).f = flagByte z n h c ∧ (s.setFlags z n h c).flagZ = z ∧ (s.setFlags z n h c).flagN = n ∧
    (s.setFlags z n h c).flagH = h ∧ (s.setFlags z n h c).flagC = c ∧
    s.flagZ = decide (s.f.toNat / 128 % 2 = 1) ∧ s.flagN = decide (s.f.toNat / 64 % 2 = 1) ∧
    s.flagH = decide (s.f.toNat / 32 % 2 = 1) ∧ s.flagC = decide (s.f.toNat / 16 % 2 = 1) ∧
    (s.writeF v).f = byte (v.toNat / 16 * 16)

/-- Pairs are views: the first-named register is the high byte, the second the low byte, and what is written is read
back, masked for AF (10_state.md R21). -/
def Obligations.PairsAreViews : Prop :=
  ∀ (s : State) (v : Word),
    s.bc.toNat = s.b.toNat * 256 + s.c.toNat ∧ s.de.toNat = s.d.toNat * 256 + s.e.toNat ∧
    s.hl.toNat = s.h.toNat * 256 + s.l.toNat ∧ s.af.toNat = s.a.toNat * 256 + s.f.toNat ∧
    (s.setBc v).bc = v ∧ (s.setDe v).de = v ∧ (s.setHl v).hl = v ∧ (s.setAf v).af = v &&& 0xFFF0#16

/-- The frame of the registers: an instruction leaves every register its rule does not name as it was, and it never
touches `FAULT`, the parameters, the video state or the framebuffer. -/
def Obligations.RegistersNotNamedAreUnchanged : Prop :=
  ∀ (i : Instr) (s t : State), exec i s = .next t →
    (∀ r : Reg, r ∉ writesRegs i.form → r.same s t) ∧
    t.fault = s.fault ∧ t.params = s.params ∧ t.video = s.video ∧ t.fb = s.fb

/-- The frame of F: a flag changes only where its writers list names the instruction, and bits 3..0 of F, where they
are 0, stay 0 (the writer lists of 10_state.md section 1; F masked at each write, log 13, DEDUCED, the spec's own
decision D25). -/
def Obligations.FlagsChangeOnlyByTheirWriters : Prop :=
  ∀ (i : Instr) (s t : State), exec i s = .next t →
    (writesZ i.form = false → t.flagZ = s.flagZ) ∧ (writesN i.form = false → t.flagN = s.flagN) ∧
    (writesH i.form = false → t.flagH = s.flagH) ∧ (writesC i.form = false → t.flagC = s.flagC) ∧
    (s.f &&& 0x0F#8 = 0 → t.f &&& 0x0F#8 = 0)

/-! ## Memory -/

/-- What every address reads (20_memory.md R55): the overlay while it is mapped and 0x00 after, RAM and its echo,
and 0x00 everywhere else. -/
def Obligations.ReadByteFollowsTheMap : Prop :=
  ∀ (s : State) (a : Word), s.readByte a =
    if a.toNat ≤ 0x00FF then (if s.overlayMapped then Memory.read s.params.bootRom a.toNat else 0x00#8)
    else if 0x8000 ≤ a.toNat ∧ a.toNat ≤ 0x9FFF then Memory.read s.mem a.toNat
    else if 0xC000 ≤ a.toNat ∧ a.toNat ≤ 0xDFFF then Memory.read s.mem a.toNat
    else if 0xE000 ≤ a.toNat ∧ a.toNat ≤ 0xFDFF then Memory.read s.mem (a.toNat - 0x2000)
    else if 0xFF80 ≤ a.toNat ∧ a.toNat ≤ 0xFFFE then Memory.read s.mem a.toNat
    else 0x00#8

/-- What a byte write does (20_memory.md section 2; the unmapping at 0xFF50 is the spec's own decision D7): a byte
of RAM reads as written through every address that reaches it, every other address above the overlay range reads as
before, only a non-zero byte at 0xFF50 unmaps the overlay, and nothing else changes. -/
def Obligations.WriteByteChangesOneByte : Prop :=
  ∀ (s : State) (a b : Word) (v : Byte),
    let t := s.writeByte a v
    (Memory.wf s.mem → sameByte a b → t.readByte b = v) ∧
    (¬ sameByte a b → 0x00FF < b.toNat → t.readByte b = s.readByte b) ∧
    (b.toNat ≤ 0x00FF → ¬ (a = 0xFF50#16 ∧ v ≠ 0) → t.readByte b = s.readByte b) ∧
    (b.toNat ≤ 0x00FF → a = 0xFF50#16 ∧ v ≠ 0 → t.readByte b = 0) ∧
    t.overlayMapped = (s.overlayMapped && !(decide (a = 0xFF50#16) && decide (v ≠ 0))) ∧
    t = { s with mem := t.mem, overlayMapped := t.overlayMapped }

/-- A write through either echo alias is visible through the other (20_memory.md section 2). -/
def Obligations.EchoAliasing : Prop :=
  ∀ (s : State) (a : Word) (v : Byte), Memory.wf s.mem → 0xE000 ≤ a.toNat → a.toNat ≤ 0xFDFF →
    (s.writeByte a v).readByte (a - 0x2000#16) = v ∧ (s.writeByte (a - 0x2000#16) v).readByte a = v

/-- Words are little-endian, each byte routed on its own, the high byte's address wrapping at 0xFFFF and written first
(20_memory.md section 2; the wrap and the order are the spec's own decisions D8 and D9); a word written where both
addresses have RAM behind them reads back. -/
def Obligations.WordsAreLittleEndian : Prop :=
  ∀ (s : State) (a v : Word),
    (s.readWord a).toNat = (s.readByte (word (a.toNat + 1))).toNat * 256 + (s.readByte a).toNat ∧
    s.writeWord a v = (s.writeByte (word (a.toNat + 1)) (byte (v.toNat / 256))).writeByte a (byte v.toNat) ∧
    (Memory.wf s.mem → backed a → backed (word (a.toNat + 1)) → (s.writeWord a v).readWord a = v)

/-- `OVERLAY_MAPPED` is cleared by a non-zero write to 0xFF50, which stores nothing and reads 0x00, only by an
instruction that stores there, and never set again (20_memory.md section 3; the address is the spec's own decision
D7). -/
def Obligations.OverlayIsNeverMappedAgain : Prop :=
  (∀ s t : State, step s = .next t → s.overlayMapped = false → t.overlayMapped = false) ∧
  (∀ (i : Instr) (s t : State), exec i s = .next t → t.overlayMapped ≠ s.overlayMapped →
    0xFF50#16 ∈ storedTo i.form s ∧ t.overlayMapped = false) ∧
  (∀ (s : State) (v : Byte), s.writeByte 0xFF50#16 v = { s with overlayMapped := s.overlayMapped && decide (v = 0) } ∧
    s.readByte 0xFF50#16 = 0)

/-- The frame of memory: every address that reaches none of the bytes an instruction stores to reads as before, the
addresses 0x0000–0x00FF unless 0xFF50 is stored to. -/
def Obligations.BytesNotStoredToAreUnchanged : Prop :=
  ∀ (i : Instr) (s t : State), exec i s = .next t →
    ∀ b : Word, (∀ a ∈ storedTo i.form s, ¬ sameByte a b) →
      (b.toNat ≤ 0x00FF → 0xFF50#16 ∉ storedTo i.form s) → t.readByte b = s.readByte b

/-! ## Completion and cost -/

/-- Every instruction completes, in every state, and returns its cost: the base cost, or the alternate cost where it is
a conditional transfer whose condition fails, in cycle-units (30_encoding.md R102, R104). The cost pair is the
cycle table's and the one of the instruction's row. -/
def Obligations.EveryInstructionCompletesAtItsCost : Prop :=
  ∀ (i : Instr) (s : State),
    (i.row.base, i.row.alt) = costT i.form ∧ (costT i.form).1 % 4 = 0 ∧ (costT i.form).2 % 4 = 0 ∧
    ∃ t : State, exec i s = .next t ∧
      t.units = some ((if notTaken i.form s then (costT i.form).2 else (costT i.form).1) / s.params.tPerUnit.periods)

/-! ## Loads -/

/-- `LD r8[y],r8[z]`, `LD r8[y],(HL)` and `LD (HL),r8[z]` (41_load.md R131, R132, R133). -/
def Obligations.LoadBetweenRegistersAndMemory : Prop :=
  ∀ (s : State) (y z : R8), ¬ (y = .atHl ∧ z = .atHl) →
    encode (Instr.ofLd y z) = [byte (0x40 + 8 * r8Index y + r8Index z)] ∧
    (y ≠ .atHl → z ≠ .atHl → answers (exec (Instr.ofLd y z) s) (s.writeR8 y (s.readR8 z)) 4) ∧
    (z = .atHl → answers (exec (Instr.ofLd y z) s) (s.writeR8 y (s.readByte s.hl)) 8) ∧
    (y = .atHl → answers (exec (Instr.ofLd y z) s) (s.writeByte s.hl (s.readR8 z)) 8)

/-- `LD r8[y],d8` and `LD (HL),d8` (41_load.md R134, R135). -/
def Obligations.LoadImmediateByte : Prop :=
  ∀ (s : State) (y : R8) (n : Byte),
    encode (Instr.ofLdImm y n) = [byte (8 * r8Index y + 6), n] ∧
    (y ≠ .atHl → answers (exec (Instr.ofLdImm y n) s) (s.writeR8 y n) 8) ∧
    (y = .atHl → answers (exec (Instr.ofLdImm y n) s) (s.writeByte s.hl n) 12)

/-- `LD (BC),A`, `LD (DE),A`, `LD A,(BC)`, `LD A,(DE)` (41_load.md R136–R139). -/
def Obligations.LoadThroughBcAndDe : Prop :=
  ∀ s : State,
    encode .ldAtBcA = [0x02#8] ∧ answers (exec .ldAtBcA s) (s.writeByte s.bc s.a) 8 ∧
    encode .ldAtDeA = [0x12#8] ∧ answers (exec .ldAtDeA s) (s.writeByte s.de s.a) 8 ∧
    encode .ldAAtBc = [0x0A#8] ∧ answers (exec .ldAAtBc s) { s with a := s.readByte s.bc } 8 ∧
    encode .ldAAtDe = [0x1A#8] ∧ answers (exec .ldAAtDe s) { s with a := s.readByte s.de } 8

/-- `LD (HL+),A`, `LD (HL-),A`, `LD A,(HL+)`, `LD A,(HL-)`: the access at the old HL, then HL one more or less, as a u16
(41_load.md R140–R143). -/
def Obligations.LoadWithHlStepped : Prop :=
  ∀ s : State,
    let up := word (s.hl.toNat + 1)
    let down := word (s.hl.toNat + 65535)
    encode .ldAtHliA = [0x22#8] ∧
    answers (exec .ldAtHliA s) { s.writeByte s.hl s.a with h := hi8 up, l := lo8 up } 8 ∧
    encode .ldAtHldA = [0x32#8] ∧
    answers (exec .ldAtHldA s) { s.writeByte s.hl s.a with h := hi8 down, l := lo8 down } 8 ∧
    encode .ldAAtHli = [0x2A#8] ∧
    answers (exec .ldAAtHli s) { s with a := s.readByte s.hl, h := hi8 up, l := lo8 up } 8 ∧
    encode .ldAAtHld = [0x3A#8] ∧
    answers (exec .ldAAtHld s) { s with a := s.readByte s.hl, h := hi8 down, l := lo8 down } 8

/-- `LD (a16),A` and `LD A,(a16)` (41_load.md R144, R145). -/
def Obligations.LoadAtDirectAddress : Prop :=
  ∀ (s : State) (a : Word),
    encode (.ldAtA16A a) = [0xEA#8, lo8 a, hi8 a] ∧ answers (exec (.ldAtA16A a) s) (s.writeByte a s.a) 16 ∧
    encode (.ldAAtA16 a) = [0xFA#8, lo8 a, hi8 a] ∧ answers (exec (.ldAAtA16 a) s) { s with a := s.readByte a } 16

/-- `LD HL,SP+e8`: HL is SP plus the signed displacement, Z and N are 0, H and C the carries of the unsigned low-byte
sum (41_load.md R150). -/
def Obligations.LoadHlFromSpPlusDisplacement : Prop :=
  ∀ (s : State) (e : Byte),
    let r : Word := BitVec.ofInt 16 (s.sp.toNat + e.toInt)
    encode (.ldHlSpE8 e) = [0xF8#8, e] ∧
    answers (exec (.ldHlSpE8 e) s)
      { s with
        h := hi8 r
        l := lo8 r
        f := flagByte false false (decide (s.sp.toNat % 16 + e.toNat % 16 > 15))
          (decide (s.sp.toNat % 256 + e.toNat > 255)) } 12

/-- `LD rp[p],d16` and `LD SP,HL` (41_load.md R151, R153). -/
def Obligations.LoadPairImmediateAndSpFromHl : Prop :=
  ∀ (s : State) (p : Rp) (v : Word),
    encode (Instr.ofLdRp p v) = [byte (16 * rpIndex p + 1), lo8 v, hi8 v] ∧
    answers (exec (Instr.ofLdRp p v) s) (s.writeRp p v) 12 ∧
    encode .ldSpHl = [0xF9#8] ∧ answers (exec .ldSpHl s) { s with sp := s.hl } 8

/-- `LD (a16),SP`: the low byte of SP at a, the high byte at a + 1 (41_load.md R152). The two addresses reach different
bytes, so the order of the two writes, which is the spec's own decision D9, is not seen in the state. -/
def Obligations.StoreSpAtDirectAddress : Prop :=
  ∀ (s : State) (a : Word),
    encode (.ldAtA16Sp a) = [0x08#8, lo8 a, hi8 a] ∧
    answers (exec (.ldAtA16Sp a) s)
      ((s.writeByte (word (a.toNat + 1)) (byte (s.sp.toNat / 256))).writeByte a (byte s.sp.toNat)) 20

/-! ## Increment and decrement -/

/-- `INC` and `DEC` of `r8[y]` and of `(HL)`: the result, Z, N and H, with C unchanged (42_incdec.md R160–R163). -/
def Obligations.IncrementAndDecrementByte : Prop :=
  ∀ (s : State) (y : R8),
    let v := (s.readR8 y).toNat
    encode (Instr.ofInc y) = [byte (8 * r8Index y + 4)] ∧
    answers (exec (Instr.ofInc y) s)
      { s.writeR8 y (byte (v + 1)) with f := flagByte (decide (v = 255)) false (decide (v % 16 = 15)) s.flagC }
      (if y = .atHl then 12 else 4) ∧
    encode (Instr.ofDec y) = [byte (8 * r8Index y + 5)] ∧
    answers (exec (Instr.ofDec y) s)
      { s.writeR8 y (byte (v + 255)) with f := flagByte (decide (v = 1)) true (decide (v % 16 = 0)) s.flagC }
      (if y = .atHl then 12 else 4)

/-- `INC rp[p]` and `DEC rp[p]`: modulo 65536, no flag (42_incdec.md R164, R165). -/
def Obligations.IncrementAndDecrementPair : Prop :=
  ∀ (s : State) (p : Rp),
    encode (Instr.ofIncRp p) = [byte (16 * rpIndex p + 3)] ∧
    answers (exec (Instr.ofIncRp p) s) (s.writeRp p (word ((s.readRp p).toNat + 1))) 8 ∧
    encode (Instr.ofDecRp p) = [byte (16 * rpIndex p + 11)] ∧
    answers (exec (Instr.ofDecRp p) s) (s.writeRp p (word ((s.readRp p).toNat + 65535))) 8

/-! ## Arithmetic and logic -/

/-- The eight ALU operations in their register, memory and immediate forms (43_alu.md R170–R177, R184): A and all four
flags, over the natural numbers. -/
def Obligations.AluResultsAndFlags : Prop :=
  ∀ (s : State) (op : AluOp) (z : R8) (n : Byte),
    let after := fun (v : Byte) =>
      let r := aluSpec op s.a.toNat v.toNat s.flagC.toNat
      { s with a := byte r.1, f := flagByte r.2.1 r.2.2.1 r.2.2.2.1 r.2.2.2.2 }
    encode (Instr.ofAlu op z) = [byte (0x80 + 8 * aluIndex op + r8Index z)] ∧
    answers (exec (Instr.ofAlu op z) s) (after (s.readR8 z)) (if z = .atHl then 8 else 4) ∧
    encode (Instr.ofAluImm op n) = [byte (0xC6 + 8 * aluIndex op), n] ∧
    answers (exec (Instr.ofAluImm op n) s) (after n) 8

/-- `ADD HL,rp[p]`: N is 0, H and C the carries out of bits 11 and 15, Z unchanged (43_alu.md R178). -/
def Obligations.AddPairToHl : Prop :=
  ∀ (s : State) (p : Rp),
    let v := (s.readRp p).toNat
    let r := word (s.hl.toNat + v)
    encode (Instr.ofAddHl p) = [byte (16 * rpIndex p + 9)] ∧
    answers (exec (Instr.ofAddHl p) s)
      { s with
        h := hi8 r
        l := lo8 r
        f := flagByte s.flagZ false (decide (s.hl.toNat % 4096 + v % 4096 > 4095)) (decide (s.hl.toNat + v > 65535)) } 8

/-- `ADD SP,e8` (43_alu.md R179). -/
def Obligations.AddDisplacementToSp : Prop :=
  ∀ (s : State) (e : Byte),
    encode (.addSpE8 e) = [0xE8#8, e] ∧
    answers (exec (.addSpE8 e) s)
      { s with
        sp := BitVec.ofInt 16 (s.sp.toNat + e.toInt)
        f := flagByte false false (decide (s.sp.toNat % 16 + e.toNat % 16 > 15))
          (decide (s.sp.toNat % 256 + e.toNat > 255)) } 16

/-- `DAA` (43_alu.md R180): A and C as the algorithm gives them, Z from A, H cleared, N unchanged. -/
def Obligations.DecimalAdjust : Prop :=
  ∀ s : State,
    let r := daaSpec s.a.toNat s.flagN s.flagH s.flagC
    encode .daa = [0x27#8] ∧
    answers (exec .daa s) { s with a := byte r.1, f := flagByte (decide (r.1 = 0)) s.flagN false r.2 } 4

/-- `CPL`, `SCF` and `CCF` (43_alu.md R181–R183). -/
def Obligations.ComplementAndCarryFlagInstructions : Prop :=
  ∀ s : State,
    encode .cpl = [0x2F#8] ∧
    answers (exec .cpl s) { s with a := byte (255 - s.a.toNat), f := flagByte s.flagZ true true s.flagC } 4 ∧
    encode .scf = [0x37#8] ∧ answers (exec .scf s) { s with f := flagByte s.flagZ false false true } 4 ∧
    encode .ccf = [0x3F#8] ∧ answers (exec .ccf s) { s with f := flagByte s.flagZ false false (!s.flagC) } 4

/-- Adding, or subtracting, two BCD numbers below 100 and adjusting gives the BCD sum, or difference, modulo 100, with C
the decimal carry, or borrow. -/
def Obligations.DaaCorrectsBcdArithmetic : Prop :=
  ∀ (s t u : State) (x y : Nat), x < 100 → y < 100 → s.a = bcd x →
    (exec (.addAD8 (bcd y)) s = .next t → exec .daa t = .next u →
      u.a = bcd ((x + y) % 100) ∧ u.flagC = decide (100 ≤ x + y)) ∧
    (exec (.subAD8 (bcd y)) s = .next t → exec .daa t = .next u →
      u.a = bcd ((x + 100 - y) % 100) ∧ u.flagC = decide (x < y))

/-! ## Rotates, shifts and bits -/

/-- `RLCA`, `RRCA`, `RLA`, `RRA` (44_rotate.md; that Z follows `ROT_A_Z` is the spec's own decision D17): the result
and C as the secondary-space rotates give them, N and H cleared, Z from the result or cleared as `ROT_A_Z` says. -/
def Obligations.AccumulatorRotates : Prop :=
  ∀ s : State,
    let after := fun (op : RotOp) =>
      let r := rotSpec op s.a.toNat s.flagC.toNat
      { s with a := byte r.1, f := flagByte (decide (s.params.rotAZ = .fromResult) && decide (r.1 = 0)) false false r.2 }
    encode .rlca = [0x07#8] ∧ answers (exec .rlca s) (after .rlc) 4 ∧
    encode .rrca = [0x0F#8] ∧ answers (exec .rrca s) (after .rrc) 4 ∧
    encode .rla = [0x17#8] ∧ answers (exec .rla s) (after .rl) 4 ∧
    encode .rra = [0x1F#8] ∧ answers (exec .rra s) (after .rr) 4

/-- The eight secondary-space rotates and shifts on `r8[z]` (48_prefix_cb.md R241–R248): the result written back, Z from
it, N and H cleared, C the evicted bit. -/
def Obligations.SecondaryRotatesAndShifts : Prop :=
  ∀ (s : State) (op : RotOp) (z : R8),
    let r := rotSpec op (s.readR8 z).toNat s.flagC.toNat
    encode (Instr.ofRot op z) = [byte (8 * rotIndex op + r8Index z)] ∧ (Instr.ofRot op z).space = .secondary ∧
    answers (exec (Instr.ofRot op z) s)
      { s.writeR8 z (byte r.1) with f := flagByte (decide (r.1 = 0)) false false r.2 } (if z = .atHl then 12 else 4)

/-- `BIT`, `RES` and `SET` on `r8[z]` (48_prefix_cb.md R249–R251). -/
def Obligations.BitTestResetAndSet : Prop :=
  ∀ (s : State) (y : Fin 8) (z : R8),
    let v := (s.readR8 z).toNat
    let set := decide (v / 2 ^ y.val % 2 = 1)
    encode (Instr.ofBit y z) = [byte (0x40 + 8 * y.val + r8Index z)] ∧ (Instr.ofBit y z).space = .secondary ∧
    answers (exec (Instr.ofBit y z) s) { s with f := flagByte (!set) false true s.flagC } (if z = .atHl then 8 else 4) ∧
    encode (Instr.ofRes y z) = [byte (0x80 + 8 * y.val + r8Index z)] ∧ (Instr.ofRes y z).space = .secondary ∧
    answers (exec (Instr.ofRes y z) s) (s.writeR8 z (byte (if set then v - 2 ^ y.val else v)))
      (if z = .atHl then 12 else 4) ∧
    encode (Instr.ofSet y z) = [byte (0xC0 + 8 * y.val + r8Index z)] ∧ (Instr.ofSet y z).space = .secondary ∧
    answers (exec (Instr.ofSet y z) s) (s.writeR8 z (byte (if set then v else v + 2 ^ y.val)))
      (if z = .atHl then 12 else 4)

/-- The prefix sets the latch and has no other effect (48_prefix_cb.md R240). -/
def Obligations.PrefixSetsTheLatch : Prop :=
  ∀ s : State,
    encode .prefixCb = [0xCB#8] ∧ Instr.prefixCb.space = .primary ∧
    answers (exec .prefixCb s) { s with cbLatch := true } 4

/-- 0xCB and a byte after it are two steps: the second runs the secondary-space instruction of that byte, with PC two
further and the latch clear (40_engine.md section 1; 48_prefix_cb.md section 1). That each of the two is followed by
`VideoStep` is the model's choice, log 8 (DEDUCED): it follows 60_exceptions.md section 5, where the order is the spec's
own reading, decision D4. -/
def Obligations.PrefixedInstructionTakesTwoSteps : Prop :=
  ∀ (s : State) (b : Byte), s.fault = none → s.execState = .running → s.cbLatch = false →
    s.readByte s.pc = 0xCB#8 → s.readByte (s.pc + 1) = b →
    s.params.mapped .primary 0xCB#8 = true → s.params.mapped .secondary b = true →
    ∃ t u : State, step s = .next t ∧ t.cbLatch = true ∧ t.pc = s.pc + 1 ∧
      exec (secondaryInstr b) { t with pc := s.pc + 2, cbLatch := false } = .next u ∧
      step t = .next u.driveVideo ∧ u.driveVideo.pc = s.pc + 2 ∧ u.driveVideo.cbLatch = false

/-! ## Control transfers and the stack -/

/-- `JR e8` and `JR cc,e8` (45_jump.md R200, R201). -/
def Obligations.RelativeJumps : Prop :=
  ∀ (s : State) (k : Cc) (e : Byte),
    let target : Word := BitVec.ofInt 16 (s.pc.toNat + e.toInt)
    encode (.jrE8 e) = [0x18#8, e] ∧ answers (exec (.jrE8 e) s) { s with pc := target } 12 ∧
    encode (Instr.ofJr k e) = [byte (0x20 + 8 * ccIndex k), e] ∧
    (s.cond k = true → answers (exec (Instr.ofJr k e) s) { s with pc := target } 12) ∧
    (s.cond k = false → answers (exec (Instr.ofJr k e) s) s 8)

/-- `JP a16`, `JP HL` and `JP cc,a16` (45_jump.md R202–R204). -/
def Obligations.AbsoluteJumps : Prop :=
  ∀ (s : State) (k : Cc) (a : Word),
    encode (.jpA16 a) = [0xC3#8, lo8 a, hi8 a] ∧ answers (exec (.jpA16 a) s) { s with pc := a } 16 ∧
    encode .jpHl = [0xE9#8] ∧ answers (exec .jpHl s) { s with pc := s.hl } 4 ∧
    encode (Instr.ofJp k a) = [byte (0xC2 + 8 * ccIndex k), lo8 a, hi8 a] ∧
    (s.cond k = true → answers (exec (Instr.ofJp k a) s) { s with pc := a } 16) ∧
    (s.cond k = false → answers (exec (Instr.ofJp k a) s) s 12)

/-- `CALL a16`, `CALL cc,a16` and `RST n` (46_stack.md R210, R211, R215): the return address pushed, high byte first at
SP - 1, low byte at SP - 2, and PC at the target. -/
def Obligations.CallsPushTheReturnAddress : Prop :=
  ∀ (s : State) (k : Cc) (a : Word) (y : Fin 8),
    let called := fun (target : Word) =>
      { (s.writeByte (s.sp - 1) (hi8 s.pc)).writeByte (s.sp - 2) (lo8 s.pc) with sp := s.sp - 2, pc := target }
    encode (.callA16 a) = [0xCD#8, lo8 a, hi8 a] ∧ answers (exec (.callA16 a) s) (called a) 24 ∧
    encode (Instr.ofCall k a) = [byte (0xC4 + 8 * ccIndex k), lo8 a, hi8 a] ∧
    (s.cond k = true → answers (exec (Instr.ofCall k a) s) (called a) 24) ∧
    (s.cond k = false → answers (exec (Instr.ofCall k a) s) s 12) ∧
    encode (Instr.ofRst y) = [byte (0xC7 + 8 * y.val)] ∧
    answers (exec (Instr.ofRst y) s) (called (word (y.val * 8))) 16

/-- `RET` and `RET cc` (46_stack.md R212, R213): PC is the word at SP, SP two higher. `RETI` (R214) is the same and
sets IME: this clause rests on the spec's own decision D16, which the model follows (log 2, UNVERIFIED). -/
def Obligations.ReturnsPopThePc : Prop :=
  ∀ (s : State) (k : Cc),
    let returned := { s with pc := join (s.readByte (s.sp + 1)) (s.readByte s.sp), sp := s.sp + 2 }
    encode .ret = [0xC9#8] ∧ answers (exec .ret s) returned 16 ∧
    encode (Instr.ofRet k) = [byte (0xC0 + 8 * ccIndex k)] ∧
    (s.cond k = true → answers (exec (Instr.ofRet k) s) returned 20) ∧
    (s.cond k = false → answers (exec (Instr.ofRet k) s) s 8) ∧
    encode .reti = [0xD9#8] ∧ answers (exec .reti s) { returned with ime := true } 16

/-- `PUSH rp2[p]` and `POP rp2[p]` (46_stack.md R216, R217). -/
def Obligations.PushAndPopPairs : Prop :=
  ∀ (s : State) (p : Rp2),
    let v := s.readRp2 p
    encode (Instr.ofPush p) = [byte (0xC5 + 16 * rp2Index p)] ∧
    answers (exec (Instr.ofPush p) s)
      { (s.writeByte (s.sp - 1) (hi8 v)).writeByte (s.sp - 2) (lo8 v) with sp := s.sp - 2 } 16 ∧
    encode (Instr.ofPop p) = [byte (0xC1 + 16 * rp2Index p)] ∧
    answers (exec (Instr.ofPop p) s)
      { s.writeRp2 p (join (s.readByte (s.sp + 1)) (s.readByte s.sp)) with sp := s.sp + 2 } 12

/-- Where the two stack bytes are in RAM, a PUSH and then a POP of the same pair restore the pair, F's low nibble read
as 0, and SP; and a CALL and then a RET come back to the address after the CALL with SP restored. -/
def Obligations.StackRoundTrips : Prop :=
  ∀ (s t u : State) (p : Rp2) (a : Word), Memory.wf s.mem → backed (s.sp - 1) → backed (s.sp - 2) →
    (exec (Instr.ofPush p) s = .next t → exec (Instr.ofPop p) t = .next u →
      u.sp = s.sp ∧ (s.f &&& 0x0F#8 = 0 → u.readRp2 p = s.readRp2 p)) ∧
    (exec (.callA16 a) s = .next t → t.pc = a ∧ (exec .ret t = .next u → u.pc = s.pc ∧ u.sp = s.sp))

/-! ## The I/O page and control -/

/-- The I/O-page loads (47_io_page.md R230–R233). -/
def Obligations.InputOutputPageLoads : Prop :=
  ∀ (s : State) (o : Byte),
    encode (.ldhAtA8A o) = [0xE0#8, o] ∧
    answers (exec (.ldhAtA8A o) s) (s.writeByte (word (0xFF00 + o.toNat)) s.a) 12 ∧
    encode (.ldhAAtA8 o) = [0xF0#8, o] ∧
    answers (exec (.ldhAAtA8 o) s) { s with a := s.readByte (word (0xFF00 + o.toNat)) } 12 ∧
    encode .ldAtCA = [0xE2#8] ∧ answers (exec .ldAtCA s) (s.writeByte (word (0xFF00 + s.c.toNat)) s.a) 8 ∧
    encode .ldAAtC = [0xF2#8] ∧ answers (exec .ldAAtC s) { s with a := s.readByte (word (0xFF00 + s.c.toNat)) } 8

/-- `NOP` (49_control.md R260), and the step of `HALT` itself (R261; the steps after it are in
`HaltedStepOnlyReturnsOne`). The clauses of `STOP`, and of `DI` and `EI`, rest on the spec's own decisions D15 and D16,
which the model follows (log 2, UNVERIFIED). -/
def Obligations.ControlInstructions : Prop :=
  ∀ (s : State) (n : Byte),
    encode .nop = [0x00#8] ∧ answers (exec .nop s) s 4 ∧
    encode .halt = [0x76#8] ∧ answers (exec .halt s) { s with execState := .halted } 4 ∧
    encode (.stop n) = [0x10#8, n] ∧ answers (exec (.stop n) s) { s with execState := .halted } 4 ∧
    encode .di = [0xF3#8] ∧ answers (exec .di s) { s with ime := false } 4 ∧
    encode .ei = [0xFB#8] ∧ answers (exec .ei s) { s with ime := true } 4

/-! ## The video timing state machine and what the CPU can see -/

/-- `VideoStep` moves the place in the frame by the elapsed clock periods, modulo the 70224 of a frame, and keeps the
mode, line and accumulator in step: OAM_SCAN, DRAWING and HBLANK on lines 0..143, VBLANK on lines 144..153
(60_exceptions.md section 4; the durations and the line numbers are the spec's own decision D12). -/
def Obligations.VideoStepAdvancesTheFramePosition : Prop :=
  ∀ (s : State) (n : Nat), s.video.ok = true →
    (s.videoStep n).video.ok = true ∧
    framePosition (s.videoStep n).video =
      (framePosition s.video + n * s.params.tPerUnit.periods) % 70224

/-- `VideoStep` is the loop of its rule, unrolled once, for any video state, and leaves less in the accumulator than the
mode lasts (60_exceptions.md section 4; the durations and the line numbers are the spec's own decision D12). -/
def Obligations.VideoLoopUnrolls : Prop :=
  ∀ (v : Video) (t : Nat),
    let full := { v with acc := v.acc + t }
    (full.acc < v.mode.duration → v.advance t = full) ∧
    (v.mode.duration ≤ full.acc →
      v.advance t =
        match v.mode with
        | .oamScan => Video.advance { v with mode := .drawing, acc := full.acc - 80 } 0
        | .drawing => Video.advance { v with mode := .hblank, acc := full.acc - 172 } 0
        | .hblank =>
          Video.advance
            { mode := if v.line + 1 = 144 then .vblank else .oamScan, line := v.line + 1, acc := full.acc - 204 } 0
        | .vblank =>
          if v.line + 1 = 154 then Video.advance { mode := .oamScan, line := 0, acc := full.acc - 456 } 0
          else Video.advance { mode := .vblank, line := v.line + 1, acc := full.acc - 456 } 0) ∧
    (v.advance t).acc < (v.advance t).mode.duration ∧
    ∀ (s : State) (n : Nat), s.videoStep 0 = s ∧
      (n ≠ 0 → (s.videoStep n).video = s.video.advance (n * s.params.tPerUnit.periods))

/-- `copy_framebuffer` gives the `FB_WIDTH * FB_HEIGHT` pixels of `FB`, pixel i at place i; the framebuffer changes only
in `VideoStep`, which no execution of an instruction does (60_exceptions.md section 5 and section 4). -/
def Obligations.FramebufferCopyIsExact : Prop :=
  (∀ s : State, s.copyFramebuffer.length = s.params.fbWidth * s.params.fbHeight ∧
    ∀ (i : Nat) (h : i < s.copyFramebuffer.length), s.copyFramebuffer[i] = s.pixel i) ∧
  (∀ (i : Instr) (s t : State), exec i s = .next t → ∀ j : Nat, t.pixel j = s.pixel j)

/-- No instruction sees the video state, the framebuffer, a returned count, `T_PER_UNIT` or the framebuffer's size:
two states that differ only in these step to the same outcome, up to these (60_exceptions.md section 4;
70_reset_and_hazards.md section 4: no rule that decides registers, flags, memory, PC or the fault depends on
timing). That no video register is mapped and VRAM is plain storage in every mode are the spec's own decisions D10
and D11. -/
def Obligations.CpuCannotSeeVideoOrTiming : Prop :=
  ∀ s u : State, cpuView s = cpuView u → sameThrough cpuView (step s) (step u)

/-- Nothing reads IME: two states that differ only in it step to the same outcome, up to it (10_state.md section 2; IME
and its never being read are the spec's own decision D16). -/
def Obligations.ImeIsNeverRead : Prop :=
  ∀ s u : State, withoutIme s = withoutIme u → sameThrough withoutIme (step s) (step u)
end

