-- ==== Sys2Proof/Laws/Bits.lean ====
section
/-! SUPPORT. Spec lemmas of the bit-field and byte-order helpers, over the natural numbers. -/

namespace Sys2Proof

theorem hi8_toNat (w : Word) : (hi8 w).toNat = w.toNat / 256 := by
  have := w.isLt
  simp only [hi8, BitVec.extractLsb'_toNat, Nat.shiftRight_eq_div_pow]
  omega

theorem lo8_toNat (w : Word) : (lo8 w).toNat = w.toNat % 256 := by
  simp only [lo8, BitVec.extractLsb'_toNat, Nat.shiftRight_eq_div_pow]
  omega

theorem join_toNat (h l : Byte) : (join h l).toNat = h.toNat * 256 + l.toNat := by
  have := l.isLt
  unfold join
  rw [BitVec.toNat_append, Nat.shiftLeft_eq, Nat.mul_comm, ← Nat.two_pow_add_eq_or_of_lt this, Nat.mul_comm]

/-- A word is its two bytes. -/
@[simp] theorem join_hi_lo (w : Word) : join (hi8 w) (lo8 w) = w := by
  apply BitVec.eq_of_toNat_eq
  rw [join_toNat, hi8_toNat, lo8_toNat]
  omega

@[simp] theorem hi8_join (h l : Byte) : hi8 (join h l) = h := by
  apply BitVec.eq_of_toNat_eq
  have := l.isLt
  rw [hi8_toNat, join_toNat]
  omega

@[simp] theorem lo8_join (h l : Byte) : lo8 (join h l) = l := by
  apply BitVec.eq_of_toNat_eq
  have := l.isLt
  rw [lo8_toNat, join_toNat]
  omega

theorem zext16_toNat (b : Byte) : (zext16 b).toNat = b.toNat := by
  have := b.isLt
  simp only [zext16, BitVec.toNat_setWidth]
  omega

/-- Adding a sign-extended byte is adding its two's-complement value (45_jump.md R200). -/
theorem add_sext16 (w : Word) (e : Byte) : w + sext16 e = BitVec.ofInt 16 (w.toNat + e.toInt) := by
  apply BitVec.eq_of_toInt_eq
  rw [BitVec.toInt_add, BitVec.toInt_ofInt, sext16, BitVec.toInt_signExtend_of_le (by decide), BitVec.toInt_eq_toNat_bmod]
  simp

theorem bitOf_eq (v : Byte) (i : Nat) : bitOf v i = decide (v.toNat / 2 ^ i % 2 = 1) := by
  simp only [bitOf, BitVec.getLsbD, Nat.testBit_eq_decide_div_mod_eq]

end Sys2Proof
end

