-- ==== Sys2Proof/Laws/State.lean ====
section
/-! SUPPORT. One lemma per field per state update: what each named operation leaves as it was, and the fields it sets
outright. They hold by definition and are simp lemmas, so that no later proof unfolds an update. -/

namespace Sys2Proof.Machine

variable (s : State)

/-! ### `State.writeByte` -/

@[simp] theorem State.writeByte_a (a : Word) (v : Byte) : (s.writeByte a v).a = s.a := rfl
@[simp] theorem State.writeByte_f (a : Word) (v : Byte) : (s.writeByte a v).f = s.f := rfl
@[simp] theorem State.writeByte_b (a : Word) (v : Byte) : (s.writeByte a v).b = s.b := rfl
@[simp] theorem State.writeByte_c (a : Word) (v : Byte) : (s.writeByte a v).c = s.c := rfl
@[simp] theorem State.writeByte_d (a : Word) (v : Byte) : (s.writeByte a v).d = s.d := rfl
@[simp] theorem State.writeByte_e (a : Word) (v : Byte) : (s.writeByte a v).e = s.e := rfl
@[simp] theorem State.writeByte_h (a : Word) (v : Byte) : (s.writeByte a v).h = s.h := rfl
@[simp] theorem State.writeByte_l (a : Word) (v : Byte) : (s.writeByte a v).l = s.l := rfl
@[simp] theorem State.writeByte_sp (a : Word) (v : Byte) : (s.writeByte a v).sp = s.sp := rfl
@[simp] theorem State.writeByte_pc (a : Word) (v : Byte) : (s.writeByte a v).pc = s.pc := rfl
@[simp] theorem State.writeByte_execState (a : Word) (v : Byte) : (s.writeByte a v).execState = s.execState := rfl
@[simp] theorem State.writeByte_ime (a : Word) (v : Byte) : (s.writeByte a v).ime = s.ime := rfl
@[simp] theorem State.writeByte_cbLatch (a : Word) (v : Byte) : (s.writeByte a v).cbLatch = s.cbLatch := rfl
@[simp] theorem State.writeByte_fault (a : Word) (v : Byte) : (s.writeByte a v).fault = s.fault := rfl
@[simp] theorem State.writeByte_video (a : Word) (v : Byte) : (s.writeByte a v).video = s.video := rfl
@[simp] theorem State.writeByte_fb (a : Word) (v : Byte) : (s.writeByte a v).fb = s.fb := rfl
@[simp] theorem State.writeByte_units (a : Word) (v : Byte) : (s.writeByte a v).units = s.units := rfl
@[simp] theorem State.writeByte_params (a : Word) (v : Byte) : (s.writeByte a v).params = s.params := rfl

/-! ### `State.writeWord` -/

@[simp] theorem State.writeWord_a (a v : Word) : (s.writeWord a v).a = s.a := rfl
@[simp] theorem State.writeWord_f (a v : Word) : (s.writeWord a v).f = s.f := rfl
@[simp] theorem State.writeWord_b (a v : Word) : (s.writeWord a v).b = s.b := rfl
@[simp] theorem State.writeWord_c (a v : Word) : (s.writeWord a v).c = s.c := rfl
@[simp] theorem State.writeWord_d (a v : Word) : (s.writeWord a v).d = s.d := rfl
@[simp] theorem State.writeWord_e (a v : Word) : (s.writeWord a v).e = s.e := rfl
@[simp] theorem State.writeWord_h (a v : Word) : (s.writeWord a v).h = s.h := rfl
@[simp] theorem State.writeWord_l (a v : Word) : (s.writeWord a v).l = s.l := rfl
@[simp] theorem State.writeWord_sp (a v : Word) : (s.writeWord a v).sp = s.sp := rfl
@[simp] theorem State.writeWord_pc (a v : Word) : (s.writeWord a v).pc = s.pc := rfl
@[simp] theorem State.writeWord_execState (a v : Word) : (s.writeWord a v).execState = s.execState := rfl
@[simp] theorem State.writeWord_ime (a v : Word) : (s.writeWord a v).ime = s.ime := rfl
@[simp] theorem State.writeWord_cbLatch (a v : Word) : (s.writeWord a v).cbLatch = s.cbLatch := rfl
@[simp] theorem State.writeWord_fault (a v : Word) : (s.writeWord a v).fault = s.fault := rfl
@[simp] theorem State.writeWord_video (a v : Word) : (s.writeWord a v).video = s.video := rfl
@[simp] theorem State.writeWord_fb (a v : Word) : (s.writeWord a v).fb = s.fb := rfl
@[simp] theorem State.writeWord_units (a v : Word) : (s.writeWord a v).units = s.units := rfl
@[simp] theorem State.writeWord_params (a v : Word) : (s.writeWord a v).params = s.params := rfl

/-! ### `State.writeF` -/

@[simp] theorem State.writeF_a (v : Byte) : (s.writeF v).a = s.a := rfl
@[simp] theorem State.writeF_b (v : Byte) : (s.writeF v).b = s.b := rfl
@[simp] theorem State.writeF_c (v : Byte) : (s.writeF v).c = s.c := rfl
@[simp] theorem State.writeF_d (v : Byte) : (s.writeF v).d = s.d := rfl
@[simp] theorem State.writeF_e (v : Byte) : (s.writeF v).e = s.e := rfl
@[simp] theorem State.writeF_h (v : Byte) : (s.writeF v).h = s.h := rfl
@[simp] theorem State.writeF_l (v : Byte) : (s.writeF v).l = s.l := rfl
@[simp] theorem State.writeF_sp (v : Byte) : (s.writeF v).sp = s.sp := rfl
@[simp] theorem State.writeF_pc (v : Byte) : (s.writeF v).pc = s.pc := rfl
@[simp] theorem State.writeF_execState (v : Byte) : (s.writeF v).execState = s.execState := rfl
@[simp] theorem State.writeF_ime (v : Byte) : (s.writeF v).ime = s.ime := rfl
@[simp] theorem State.writeF_cbLatch (v : Byte) : (s.writeF v).cbLatch = s.cbLatch := rfl
@[simp] theorem State.writeF_fault (v : Byte) : (s.writeF v).fault = s.fault := rfl
@[simp] theorem State.writeF_overlayMapped (v : Byte) : (s.writeF v).overlayMapped = s.overlayMapped := rfl
@[simp] theorem State.writeF_mem (v : Byte) : (s.writeF v).mem = s.mem := rfl
@[simp] theorem State.writeF_video (v : Byte) : (s.writeF v).video = s.video := rfl
@[simp] theorem State.writeF_fb (v : Byte) : (s.writeF v).fb = s.fb := rfl
@[simp] theorem State.writeF_units (v : Byte) : (s.writeF v).units = s.units := rfl
@[simp] theorem State.writeF_params (v : Byte) : (s.writeF v).params = s.params := rfl
@[simp] theorem State.writeF_f (v : Byte) : (s.writeF v).f = v &&& 0xF0#8 := rfl

/-! ### `State.setFlags` -/

@[simp] theorem State.setFlags_a (z n h c : Bool) : (s.setFlags z n h c).a = s.a := rfl
@[simp] theorem State.setFlags_b (z n h c : Bool) : (s.setFlags z n h c).b = s.b := rfl
@[simp] theorem State.setFlags_c (z n h c : Bool) : (s.setFlags z n h c).c = s.c := rfl
@[simp] theorem State.setFlags_d (z n h c : Bool) : (s.setFlags z n h c).d = s.d := rfl
@[simp] theorem State.setFlags_e (z n h c : Bool) : (s.setFlags z n h c).e = s.e := rfl
@[simp] theorem State.setFlags_h (z n h c : Bool) : (s.setFlags z n h c).h = s.h := rfl
@[simp] theorem State.setFlags_l (z n h c : Bool) : (s.setFlags z n h c).l = s.l := rfl
@[simp] theorem State.setFlags_sp (z n h c : Bool) : (s.setFlags z n h c).sp = s.sp := rfl
@[simp] theorem State.setFlags_pc (z n h c : Bool) : (s.setFlags z n h c).pc = s.pc := rfl
@[simp] theorem State.setFlags_execState (z n h c : Bool) : (s.setFlags z n h c).execState = s.execState := rfl
@[simp] theorem State.setFlags_ime (z n h c : Bool) : (s.setFlags z n h c).ime = s.ime := rfl
@[simp] theorem State.setFlags_cbLatch (z n h c : Bool) : (s.setFlags z n h c).cbLatch = s.cbLatch := rfl
@[simp] theorem State.setFlags_fault (z n h c : Bool) : (s.setFlags z n h c).fault = s.fault := rfl
@[simp] theorem State.setFlags_overlayMapped (z n h c : Bool) : (s.setFlags z n h c).overlayMapped = s.overlayMapped := rfl
@[simp] theorem State.setFlags_mem (z n h c : Bool) : (s.setFlags z n h c).mem = s.mem := rfl
@[simp] theorem State.setFlags_video (z n h c : Bool) : (s.setFlags z n h c).video = s.video := rfl
@[simp] theorem State.setFlags_fb (z n h c : Bool) : (s.setFlags z n h c).fb = s.fb := rfl
@[simp] theorem State.setFlags_units (z n h c : Bool) : (s.setFlags z n h c).units = s.units := rfl
@[simp] theorem State.setFlags_params (z n h c : Bool) : (s.setFlags z n h c).params = s.params := rfl
@[simp] theorem State.setFlags_f (z n h c : Bool) : (s.setFlags z n h c).f = packFlags z n h c &&& 0xF0#8 := rfl

/-! ### `State.setAf` -/

@[simp] theorem State.setAf_b (v : Word) : (s.setAf v).b = s.b := rfl
@[simp] theorem State.setAf_c (v : Word) : (s.setAf v).c = s.c := rfl
@[simp] theorem State.setAf_d (v : Word) : (s.setAf v).d = s.d := rfl
@[simp] theorem State.setAf_e (v : Word) : (s.setAf v).e = s.e := rfl
@[simp] theorem State.setAf_h (v : Word) : (s.setAf v).h = s.h := rfl
@[simp] theorem State.setAf_l (v : Word) : (s.setAf v).l = s.l := rfl
@[simp] theorem State.setAf_sp (v : Word) : (s.setAf v).sp = s.sp := rfl
@[simp] theorem State.setAf_pc (v : Word) : (s.setAf v).pc = s.pc := rfl
@[simp] theorem State.setAf_execState (v : Word) : (s.setAf v).execState = s.execState := rfl
@[simp] theorem State.setAf_ime (v : Word) : (s.setAf v).ime = s.ime := rfl
@[simp] theorem State.setAf_cbLatch (v : Word) : (s.setAf v).cbLatch = s.cbLatch := rfl
@[simp] theorem State.setAf_fault (v : Word) : (s.setAf v).fault = s.fault := rfl
@[simp] theorem State.setAf_overlayMapped (v : Word) : (s.setAf v).overlayMapped = s.overlayMapped := rfl
@[simp] theorem State.setAf_mem (v : Word) : (s.setAf v).mem = s.mem := rfl
@[simp] theorem State.setAf_video (v : Word) : (s.setAf v).video = s.video := rfl
@[simp] theorem State.setAf_fb (v : Word) : (s.setAf v).fb = s.fb := rfl
@[simp] theorem State.setAf_units (v : Word) : (s.setAf v).units = s.units := rfl
@[simp] theorem State.setAf_params (v : Word) : (s.setAf v).params = s.params := rfl
@[simp] theorem State.setAf_a (v : Word) : (s.setAf v).a = hi8 v := rfl
@[simp] theorem State.setAf_f (v : Word) : (s.setAf v).f = lo8 v &&& 0xF0#8 := rfl

/-! ### `State.setBc` -/

@[simp] theorem State.setBc_a (v : Word) : (s.setBc v).a = s.a := rfl
@[simp] theorem State.setBc_f (v : Word) : (s.setBc v).f = s.f := rfl
@[simp] theorem State.setBc_d (v : Word) : (s.setBc v).d = s.d := rfl
@[simp] theorem State.setBc_e (v : Word) : (s.setBc v).e = s.e := rfl
@[simp] theorem State.setBc_h (v : Word) : (s.setBc v).h = s.h := rfl
@[simp] theorem State.setBc_l (v : Word) : (s.setBc v).l = s.l := rfl
@[simp] theorem State.setBc_sp (v : Word) : (s.setBc v).sp = s.sp := rfl
@[simp] theorem State.setBc_pc (v : Word) : (s.setBc v).pc = s.pc := rfl
@[simp] theorem State.setBc_execState (v : Word) : (s.setBc v).execState = s.execState := rfl
@[simp] theorem State.setBc_ime (v : Word) : (s.setBc v).ime = s.ime := rfl
@[simp] theorem State.setBc_cbLatch (v : Word) : (s.setBc v).cbLatch = s.cbLatch := rfl
@[simp] theorem State.setBc_fault (v : Word) : (s.setBc v).fault = s.fault := rfl
@[simp] theorem State.setBc_overlayMapped (v : Word) : (s.setBc v).overlayMapped = s.overlayMapped := rfl
@[simp] theorem State.setBc_mem (v : Word) : (s.setBc v).mem = s.mem := rfl
@[simp] theorem State.setBc_video (v : Word) : (s.setBc v).video = s.video := rfl
@[simp] theorem State.setBc_fb (v : Word) : (s.setBc v).fb = s.fb := rfl
@[simp] theorem State.setBc_units (v : Word) : (s.setBc v).units = s.units := rfl
@[simp] theorem State.setBc_params (v : Word) : (s.setBc v).params = s.params := rfl
@[simp] theorem State.setBc_b (v : Word) : (s.setBc v).b = hi8 v := rfl
@[simp] theorem State.setBc_c (v : Word) : (s.setBc v).c = lo8 v := rfl

/-! ### `State.setDe` -/

@[simp] theorem State.setDe_a (v : Word) : (s.setDe v).a = s.a := rfl
@[simp] theorem State.setDe_f (v : Word) : (s.setDe v).f = s.f := rfl
@[simp] theorem State.setDe_b (v : Word) : (s.setDe v).b = s.b := rfl
@[simp] theorem State.setDe_c (v : Word) : (s.setDe v).c = s.c := rfl
@[simp] theorem State.setDe_h (v : Word) : (s.setDe v).h = s.h := rfl
@[simp] theorem State.setDe_l (v : Word) : (s.setDe v).l = s.l := rfl
@[simp] theorem State.setDe_sp (v : Word) : (s.setDe v).sp = s.sp := rfl
@[simp] theorem State.setDe_pc (v : Word) : (s.setDe v).pc = s.pc := rfl
@[simp] theorem State.setDe_execState (v : Word) : (s.setDe v).execState = s.execState := rfl
@[simp] theorem State.setDe_ime (v : Word) : (s.setDe v).ime = s.ime := rfl
@[simp] theorem State.setDe_cbLatch (v : Word) : (s.setDe v).cbLatch = s.cbLatch := rfl
@[simp] theorem State.setDe_fault (v : Word) : (s.setDe v).fault = s.fault := rfl
@[simp] theorem State.setDe_overlayMapped (v : Word) : (s.setDe v).overlayMapped = s.overlayMapped := rfl
@[simp] theorem State.setDe_mem (v : Word) : (s.setDe v).mem = s.mem := rfl
@[simp] theorem State.setDe_video (v : Word) : (s.setDe v).video = s.video := rfl
@[simp] theorem State.setDe_fb (v : Word) : (s.setDe v).fb = s.fb := rfl
@[simp] theorem State.setDe_units (v : Word) : (s.setDe v).units = s.units := rfl
@[simp] theorem State.setDe_params (v : Word) : (s.setDe v).params = s.params := rfl
@[simp] theorem State.setDe_d (v : Word) : (s.setDe v).d = hi8 v := rfl
@[simp] theorem State.setDe_e (v : Word) : (s.setDe v).e = lo8 v := rfl

/-! ### `State.setHl` -/

@[simp] theorem State.setHl_a (v : Word) : (s.setHl v).a = s.a := rfl
@[simp] theorem State.setHl_f (v : Word) : (s.setHl v).f = s.f := rfl
@[simp] theorem State.setHl_b (v : Word) : (s.setHl v).b = s.b := rfl
@[simp] theorem State.setHl_c (v : Word) : (s.setHl v).c = s.c := rfl
@[simp] theorem State.setHl_d (v : Word) : (s.setHl v).d = s.d := rfl
@[simp] theorem State.setHl_e (v : Word) : (s.setHl v).e = s.e := rfl
@[simp] theorem State.setHl_sp (v : Word) : (s.setHl v).sp = s.sp := rfl
@[simp] theorem State.setHl_pc (v : Word) : (s.setHl v).pc = s.pc := rfl
@[simp] theorem State.setHl_execState (v : Word) : (s.setHl v).execState = s.execState := rfl
@[simp] theorem State.setHl_ime (v : Word) : (s.setHl v).ime = s.ime := rfl
@[simp] theorem State.setHl_cbLatch (v : Word) : (s.setHl v).cbLatch = s.cbLatch := rfl
@[simp] theorem State.setHl_fault (v : Word) : (s.setHl v).fault = s.fault := rfl
@[simp] theorem State.setHl_overlayMapped (v : Word) : (s.setHl v).overlayMapped = s.overlayMapped := rfl
@[simp] theorem State.setHl_mem (v : Word) : (s.setHl v).mem = s.mem := rfl
@[simp] theorem State.setHl_video (v : Word) : (s.setHl v).video = s.video := rfl
@[simp] theorem State.setHl_fb (v : Word) : (s.setHl v).fb = s.fb := rfl
@[simp] theorem State.setHl_units (v : Word) : (s.setHl v).units = s.units := rfl
@[simp] theorem State.setHl_params (v : Word) : (s.setHl v).params = s.params := rfl
@[simp] theorem State.setHl_h (v : Word) : (s.setHl v).h = hi8 v := rfl
@[simp] theorem State.setHl_l (v : Word) : (s.setHl v).l = lo8 v := rfl

/-! ### `State.afterFetchByte` -/

@[simp] theorem State.afterFetchByte_a : (s.afterFetchByte).a = s.a := rfl
@[simp] theorem State.afterFetchByte_f : (s.afterFetchByte).f = s.f := rfl
@[simp] theorem State.afterFetchByte_b : (s.afterFetchByte).b = s.b := rfl
@[simp] theorem State.afterFetchByte_c : (s.afterFetchByte).c = s.c := rfl
@[simp] theorem State.afterFetchByte_d : (s.afterFetchByte).d = s.d := rfl
@[simp] theorem State.afterFetchByte_e : (s.afterFetchByte).e = s.e := rfl
@[simp] theorem State.afterFetchByte_h : (s.afterFetchByte).h = s.h := rfl
@[simp] theorem State.afterFetchByte_l : (s.afterFetchByte).l = s.l := rfl
@[simp] theorem State.afterFetchByte_sp : (s.afterFetchByte).sp = s.sp := rfl
@[simp] theorem State.afterFetchByte_execState : (s.afterFetchByte).execState = s.execState := rfl
@[simp] theorem State.afterFetchByte_ime : (s.afterFetchByte).ime = s.ime := rfl
@[simp] theorem State.afterFetchByte_cbLatch : (s.afterFetchByte).cbLatch = s.cbLatch := rfl
@[simp] theorem State.afterFetchByte_fault : (s.afterFetchByte).fault = s.fault := rfl
@[simp] theorem State.afterFetchByte_overlayMapped : (s.afterFetchByte).overlayMapped = s.overlayMapped := rfl
@[simp] theorem State.afterFetchByte_mem : (s.afterFetchByte).mem = s.mem := rfl
@[simp] theorem State.afterFetchByte_video : (s.afterFetchByte).video = s.video := rfl
@[simp] theorem State.afterFetchByte_fb : (s.afterFetchByte).fb = s.fb := rfl
@[simp] theorem State.afterFetchByte_units : (s.afterFetchByte).units = s.units := rfl
@[simp] theorem State.afterFetchByte_params : (s.afterFetchByte).params = s.params := rfl
@[simp] theorem State.afterFetchByte_pc : (s.afterFetchByte).pc = s.pc + 1 := rfl

/-! ### `State.afterFetchWord` -/

@[simp] theorem State.afterFetchWord_a : (s.afterFetchWord).a = s.a := rfl
@[simp] theorem State.afterFetchWord_f : (s.afterFetchWord).f = s.f := rfl
@[simp] theorem State.afterFetchWord_b : (s.afterFetchWord).b = s.b := rfl
@[simp] theorem State.afterFetchWord_c : (s.afterFetchWord).c = s.c := rfl
@[simp] theorem State.afterFetchWord_d : (s.afterFetchWord).d = s.d := rfl
@[simp] theorem State.afterFetchWord_e : (s.afterFetchWord).e = s.e := rfl
@[simp] theorem State.afterFetchWord_h : (s.afterFetchWord).h = s.h := rfl
@[simp] theorem State.afterFetchWord_l : (s.afterFetchWord).l = s.l := rfl
@[simp] theorem State.afterFetchWord_sp : (s.afterFetchWord).sp = s.sp := rfl
@[simp] theorem State.afterFetchWord_execState : (s.afterFetchWord).execState = s.execState := rfl
@[simp] theorem State.afterFetchWord_ime : (s.afterFetchWord).ime = s.ime := rfl
@[simp] theorem State.afterFetchWord_cbLatch : (s.afterFetchWord).cbLatch = s.cbLatch := rfl
@[simp] theorem State.afterFetchWord_fault : (s.afterFetchWord).fault = s.fault := rfl
@[simp] theorem State.afterFetchWord_overlayMapped : (s.afterFetchWord).overlayMapped = s.overlayMapped := rfl
@[simp] theorem State.afterFetchWord_mem : (s.afterFetchWord).mem = s.mem := rfl
@[simp] theorem State.afterFetchWord_video : (s.afterFetchWord).video = s.video := rfl
@[simp] theorem State.afterFetchWord_fb : (s.afterFetchWord).fb = s.fb := rfl
@[simp] theorem State.afterFetchWord_units : (s.afterFetchWord).units = s.units := rfl
@[simp] theorem State.afterFetchWord_params : (s.afterFetchWord).params = s.params := rfl
@[simp] theorem State.afterFetchWord_pc : (s.afterFetchWord).pc = s.pc + 1 + 1 := rfl

/-! ### `State.afterOpcode` -/

@[simp] theorem State.afterOpcode_a : (s.afterOpcode).a = s.a := rfl
@[simp] theorem State.afterOpcode_f : (s.afterOpcode).f = s.f := rfl
@[simp] theorem State.afterOpcode_b : (s.afterOpcode).b = s.b := rfl
@[simp] theorem State.afterOpcode_c : (s.afterOpcode).c = s.c := rfl
@[simp] theorem State.afterOpcode_d : (s.afterOpcode).d = s.d := rfl
@[simp] theorem State.afterOpcode_e : (s.afterOpcode).e = s.e := rfl
@[simp] theorem State.afterOpcode_h : (s.afterOpcode).h = s.h := rfl
@[simp] theorem State.afterOpcode_l : (s.afterOpcode).l = s.l := rfl
@[simp] theorem State.afterOpcode_sp : (s.afterOpcode).sp = s.sp := rfl
@[simp] theorem State.afterOpcode_execState : (s.afterOpcode).execState = s.execState := rfl
@[simp] theorem State.afterOpcode_ime : (s.afterOpcode).ime = s.ime := rfl
@[simp] theorem State.afterOpcode_fault : (s.afterOpcode).fault = s.fault := rfl
@[simp] theorem State.afterOpcode_overlayMapped : (s.afterOpcode).overlayMapped = s.overlayMapped := rfl
@[simp] theorem State.afterOpcode_mem : (s.afterOpcode).mem = s.mem := rfl
@[simp] theorem State.afterOpcode_video : (s.afterOpcode).video = s.video := rfl
@[simp] theorem State.afterOpcode_fb : (s.afterOpcode).fb = s.fb := rfl
@[simp] theorem State.afterOpcode_units : (s.afterOpcode).units = s.units := rfl
@[simp] theorem State.afterOpcode_params : (s.afterOpcode).params = s.params := rfl
@[simp] theorem State.afterOpcode_pc : (s.afterOpcode).pc = s.pc + 1 := rfl
@[simp] theorem State.afterOpcode_cbLatch : (s.afterOpcode).cbLatch = false := rfl

/-! ### `State.push` -/

@[simp] theorem State.push_a (v : Word) : (s.push v).a = s.a := rfl
@[simp] theorem State.push_f (v : Word) : (s.push v).f = s.f := rfl
@[simp] theorem State.push_b (v : Word) : (s.push v).b = s.b := rfl
@[simp] theorem State.push_c (v : Word) : (s.push v).c = s.c := rfl
@[simp] theorem State.push_d (v : Word) : (s.push v).d = s.d := rfl
@[simp] theorem State.push_e (v : Word) : (s.push v).e = s.e := rfl
@[simp] theorem State.push_h (v : Word) : (s.push v).h = s.h := rfl
@[simp] theorem State.push_l (v : Word) : (s.push v).l = s.l := rfl
@[simp] theorem State.push_pc (v : Word) : (s.push v).pc = s.pc := rfl
@[simp] theorem State.push_execState (v : Word) : (s.push v).execState = s.execState := rfl
@[simp] theorem State.push_ime (v : Word) : (s.push v).ime = s.ime := rfl
@[simp] theorem State.push_cbLatch (v : Word) : (s.push v).cbLatch = s.cbLatch := rfl
@[simp] theorem State.push_fault (v : Word) : (s.push v).fault = s.fault := rfl
@[simp] theorem State.push_video (v : Word) : (s.push v).video = s.video := rfl
@[simp] theorem State.push_fb (v : Word) : (s.push v).fb = s.fb := rfl
@[simp] theorem State.push_units (v : Word) : (s.push v).units = s.units := rfl
@[simp] theorem State.push_params (v : Word) : (s.push v).params = s.params := rfl
@[simp] theorem State.push_sp (v : Word) : (s.push v).sp = s.sp - 2 := rfl

/-! ### `State.afterPop` -/

@[simp] theorem State.afterPop_a : (s.afterPop).a = s.a := rfl
@[simp] theorem State.afterPop_f : (s.afterPop).f = s.f := rfl
@[simp] theorem State.afterPop_b : (s.afterPop).b = s.b := rfl
@[simp] theorem State.afterPop_c : (s.afterPop).c = s.c := rfl
@[simp] theorem State.afterPop_d : (s.afterPop).d = s.d := rfl
@[simp] theorem State.afterPop_e : (s.afterPop).e = s.e := rfl
@[simp] theorem State.afterPop_h : (s.afterPop).h = s.h := rfl
@[simp] theorem State.afterPop_l : (s.afterPop).l = s.l := rfl
@[simp] theorem State.afterPop_pc : (s.afterPop).pc = s.pc := rfl
@[simp] theorem State.afterPop_execState : (s.afterPop).execState = s.execState := rfl
@[simp] theorem State.afterPop_ime : (s.afterPop).ime = s.ime := rfl
@[simp] theorem State.afterPop_cbLatch : (s.afterPop).cbLatch = s.cbLatch := rfl
@[simp] theorem State.afterPop_fault : (s.afterPop).fault = s.fault := rfl
@[simp] theorem State.afterPop_overlayMapped : (s.afterPop).overlayMapped = s.overlayMapped := rfl
@[simp] theorem State.afterPop_mem : (s.afterPop).mem = s.mem := rfl
@[simp] theorem State.afterPop_video : (s.afterPop).video = s.video := rfl
@[simp] theorem State.afterPop_fb : (s.afterPop).fb = s.fb := rfl
@[simp] theorem State.afterPop_units : (s.afterPop).units = s.units := rfl
@[simp] theorem State.afterPop_params : (s.afterPop).params = s.params := rfl
@[simp] theorem State.afterPop_sp : (s.afterPop).sp = s.sp + 2 := rfl

/-! ### `State.takeDecodeFailure` -/

@[simp] theorem State.takeDecodeFailure_a (k : Space) (v : Byte) : (s.takeDecodeFailure k v).a = s.a := rfl
@[simp] theorem State.takeDecodeFailure_f (k : Space) (v : Byte) : (s.takeDecodeFailure k v).f = s.f := rfl
@[simp] theorem State.takeDecodeFailure_b (k : Space) (v : Byte) : (s.takeDecodeFailure k v).b = s.b := rfl
@[simp] theorem State.takeDecodeFailure_c (k : Space) (v : Byte) : (s.takeDecodeFailure k v).c = s.c := rfl
@[simp] theorem State.takeDecodeFailure_d (k : Space) (v : Byte) : (s.takeDecodeFailure k v).d = s.d := rfl
@[simp] theorem State.takeDecodeFailure_e (k : Space) (v : Byte) : (s.takeDecodeFailure k v).e = s.e := rfl
@[simp] theorem State.takeDecodeFailure_h (k : Space) (v : Byte) : (s.takeDecodeFailure k v).h = s.h := rfl
@[simp] theorem State.takeDecodeFailure_l (k : Space) (v : Byte) : (s.takeDecodeFailure k v).l = s.l := rfl
@[simp] theorem State.takeDecodeFailure_sp (k : Space) (v : Byte) : (s.takeDecodeFailure k v).sp = s.sp := rfl
@[simp] theorem State.takeDecodeFailure_pc (k : Space) (v : Byte) : (s.takeDecodeFailure k v).pc = s.pc := rfl
@[simp] theorem State.takeDecodeFailure_execState (k : Space) (v : Byte) : (s.takeDecodeFailure k v).execState = s.execState := rfl
@[simp] theorem State.takeDecodeFailure_ime (k : Space) (v : Byte) : (s.takeDecodeFailure k v).ime = s.ime := rfl
@[simp] theorem State.takeDecodeFailure_cbLatch (k : Space) (v : Byte) : (s.takeDecodeFailure k v).cbLatch = s.cbLatch := rfl
@[simp] theorem State.takeDecodeFailure_overlayMapped (k : Space) (v : Byte) : (s.takeDecodeFailure k v).overlayMapped = s.overlayMapped := rfl
@[simp] theorem State.takeDecodeFailure_mem (k : Space) (v : Byte) : (s.takeDecodeFailure k v).mem = s.mem := rfl
@[simp] theorem State.takeDecodeFailure_video (k : Space) (v : Byte) : (s.takeDecodeFailure k v).video = s.video := rfl
@[simp] theorem State.takeDecodeFailure_fb (k : Space) (v : Byte) : (s.takeDecodeFailure k v).fb = s.fb := rfl
@[simp] theorem State.takeDecodeFailure_params (k : Space) (v : Byte) : (s.takeDecodeFailure k v).params = s.params := rfl
@[simp] theorem State.takeDecodeFailure_units (k : Space) (v : Byte) : (s.takeDecodeFailure k v).units = none := rfl

/-! ### `State.writeR8` -/

@[simp] theorem State.writeR8_f (r : R8) (v : Byte) : (s.writeR8 r v).f = s.f := by cases r <;> rfl
@[simp] theorem State.writeR8_sp (r : R8) (v : Byte) : (s.writeR8 r v).sp = s.sp := by cases r <;> rfl
@[simp] theorem State.writeR8_pc (r : R8) (v : Byte) : (s.writeR8 r v).pc = s.pc := by cases r <;> rfl
@[simp] theorem State.writeR8_execState (r : R8) (v : Byte) : (s.writeR8 r v).execState = s.execState := by cases r <;> rfl
@[simp] theorem State.writeR8_ime (r : R8) (v : Byte) : (s.writeR8 r v).ime = s.ime := by cases r <;> rfl
@[simp] theorem State.writeR8_cbLatch (r : R8) (v : Byte) : (s.writeR8 r v).cbLatch = s.cbLatch := by cases r <;> rfl
@[simp] theorem State.writeR8_fault (r : R8) (v : Byte) : (s.writeR8 r v).fault = s.fault := by cases r <;> rfl
@[simp] theorem State.writeR8_video (r : R8) (v : Byte) : (s.writeR8 r v).video = s.video := by cases r <;> rfl
@[simp] theorem State.writeR8_fb (r : R8) (v : Byte) : (s.writeR8 r v).fb = s.fb := by cases r <;> rfl
@[simp] theorem State.writeR8_units (r : R8) (v : Byte) : (s.writeR8 r v).units = s.units := by cases r <;> rfl
@[simp] theorem State.writeR8_params (r : R8) (v : Byte) : (s.writeR8 r v).params = s.params := by cases r <;> rfl

/-! ### `State.writeRp` -/

@[simp] theorem State.writeRp_a (p : Rp) (v : Word) : (s.writeRp p v).a = s.a := by cases p <;> rfl
@[simp] theorem State.writeRp_f (p : Rp) (v : Word) : (s.writeRp p v).f = s.f := by cases p <;> rfl
@[simp] theorem State.writeRp_pc (p : Rp) (v : Word) : (s.writeRp p v).pc = s.pc := by cases p <;> rfl
@[simp] theorem State.writeRp_execState (p : Rp) (v : Word) : (s.writeRp p v).execState = s.execState := by cases p <;> rfl
@[simp] theorem State.writeRp_ime (p : Rp) (v : Word) : (s.writeRp p v).ime = s.ime := by cases p <;> rfl
@[simp] theorem State.writeRp_cbLatch (p : Rp) (v : Word) : (s.writeRp p v).cbLatch = s.cbLatch := by cases p <;> rfl
@[simp] theorem State.writeRp_fault (p : Rp) (v : Word) : (s.writeRp p v).fault = s.fault := by cases p <;> rfl
@[simp] theorem State.writeRp_overlayMapped (p : Rp) (v : Word) : (s.writeRp p v).overlayMapped = s.overlayMapped := by cases p <;> rfl
@[simp] theorem State.writeRp_mem (p : Rp) (v : Word) : (s.writeRp p v).mem = s.mem := by cases p <;> rfl
@[simp] theorem State.writeRp_video (p : Rp) (v : Word) : (s.writeRp p v).video = s.video := by cases p <;> rfl
@[simp] theorem State.writeRp_fb (p : Rp) (v : Word) : (s.writeRp p v).fb = s.fb := by cases p <;> rfl
@[simp] theorem State.writeRp_units (p : Rp) (v : Word) : (s.writeRp p v).units = s.units := by cases p <;> rfl
@[simp] theorem State.writeRp_params (p : Rp) (v : Word) : (s.writeRp p v).params = s.params := by cases p <;> rfl

/-! ### `State.writeRp2` -/

@[simp] theorem State.writeRp2_sp (p : Rp2) (v : Word) : (s.writeRp2 p v).sp = s.sp := by cases p <;> rfl
@[simp] theorem State.writeRp2_pc (p : Rp2) (v : Word) : (s.writeRp2 p v).pc = s.pc := by cases p <;> rfl
@[simp] theorem State.writeRp2_execState (p : Rp2) (v : Word) : (s.writeRp2 p v).execState = s.execState := by cases p <;> rfl
@[simp] theorem State.writeRp2_ime (p : Rp2) (v : Word) : (s.writeRp2 p v).ime = s.ime := by cases p <;> rfl
@[simp] theorem State.writeRp2_cbLatch (p : Rp2) (v : Word) : (s.writeRp2 p v).cbLatch = s.cbLatch := by cases p <;> rfl
@[simp] theorem State.writeRp2_fault (p : Rp2) (v : Word) : (s.writeRp2 p v).fault = s.fault := by cases p <;> rfl
@[simp] theorem State.writeRp2_overlayMapped (p : Rp2) (v : Word) : (s.writeRp2 p v).overlayMapped = s.overlayMapped := by cases p <;> rfl
@[simp] theorem State.writeRp2_mem (p : Rp2) (v : Word) : (s.writeRp2 p v).mem = s.mem := by cases p <;> rfl
@[simp] theorem State.writeRp2_video (p : Rp2) (v : Word) : (s.writeRp2 p v).video = s.video := by cases p <;> rfl
@[simp] theorem State.writeRp2_fb (p : Rp2) (v : Word) : (s.writeRp2 p v).fb = s.fb := by cases p <;> rfl
@[simp] theorem State.writeRp2_units (p : Rp2) (v : Word) : (s.writeRp2 p v).units = s.units := by cases p <;> rfl
@[simp] theorem State.writeRp2_params (p : Rp2) (v : Word) : (s.writeRp2 p v).params = s.params := by cases p <;> rfl

/-! ### `State.videoStep` -/

@[simp] theorem State.videoStep_a (n : Nat) : (s.videoStep n).a = s.a := by unfold State.videoStep; split <;> rfl
@[simp] theorem State.videoStep_f (n : Nat) : (s.videoStep n).f = s.f := by unfold State.videoStep; split <;> rfl
@[simp] theorem State.videoStep_b (n : Nat) : (s.videoStep n).b = s.b := by unfold State.videoStep; split <;> rfl
@[simp] theorem State.videoStep_c (n : Nat) : (s.videoStep n).c = s.c := by unfold State.videoStep; split <;> rfl
@[simp] theorem State.videoStep_d (n : Nat) : (s.videoStep n).d = s.d := by unfold State.videoStep; split <;> rfl
@[simp] theorem State.videoStep_e (n : Nat) : (s.videoStep n).e = s.e := by unfold State.videoStep; split <;> rfl
@[simp] theorem State.videoStep_h (n : Nat) : (s.videoStep n).h = s.h := by unfold State.videoStep; split <;> rfl
@[simp] theorem State.videoStep_l (n : Nat) : (s.videoStep n).l = s.l := by unfold State.videoStep; split <;> rfl
@[simp] theorem State.videoStep_sp (n : Nat) : (s.videoStep n).sp = s.sp := by unfold State.videoStep; split <;> rfl
@[simp] theorem State.videoStep_pc (n : Nat) : (s.videoStep n).pc = s.pc := by unfold State.videoStep; split <;> rfl
@[simp] theorem State.videoStep_execState (n : Nat) : (s.videoStep n).execState = s.execState := by unfold State.videoStep; split <;> rfl
@[simp] theorem State.videoStep_ime (n : Nat) : (s.videoStep n).ime = s.ime := by unfold State.videoStep; split <;> rfl
@[simp] theorem State.videoStep_cbLatch (n : Nat) : (s.videoStep n).cbLatch = s.cbLatch := by unfold State.videoStep; split <;> rfl
@[simp] theorem State.videoStep_fault (n : Nat) : (s.videoStep n).fault = s.fault := by unfold State.videoStep; split <;> rfl
@[simp] theorem State.videoStep_overlayMapped (n : Nat) : (s.videoStep n).overlayMapped = s.overlayMapped := by unfold State.videoStep; split <;> rfl
@[simp] theorem State.videoStep_mem (n : Nat) : (s.videoStep n).mem = s.mem := by unfold State.videoStep; split <;> rfl
@[simp] theorem State.videoStep_units (n : Nat) : (s.videoStep n).units = s.units := by unfold State.videoStep; split <;> rfl
@[simp] theorem State.videoStep_params (n : Nat) : (s.videoStep n).params = s.params := by unfold State.videoStep; split <;> rfl

/-! ### `State.driveVideo` -/

@[simp] theorem State.driveVideo_a : (s.driveVideo).a = s.a := by unfold State.driveVideo State.videoStep; split <;> [split <;> rfl; rfl]
@[simp] theorem State.driveVideo_f : (s.driveVideo).f = s.f := by unfold State.driveVideo State.videoStep; split <;> [split <;> rfl; rfl]
@[simp] theorem State.driveVideo_b : (s.driveVideo).b = s.b := by unfold State.driveVideo State.videoStep; split <;> [split <;> rfl; rfl]
@[simp] theorem State.driveVideo_c : (s.driveVideo).c = s.c := by unfold State.driveVideo State.videoStep; split <;> [split <;> rfl; rfl]
@[simp] theorem State.driveVideo_d : (s.driveVideo).d = s.d := by unfold State.driveVideo State.videoStep; split <;> [split <;> rfl; rfl]
@[simp] theorem State.driveVideo_e : (s.driveVideo).e = s.e := by unfold State.driveVideo State.videoStep; split <;> [split <;> rfl; rfl]
@[simp] theorem State.driveVideo_h : (s.driveVideo).h = s.h := by unfold State.driveVideo State.videoStep; split <;> [split <;> rfl; rfl]
@[simp] theorem State.driveVideo_l : (s.driveVideo).l = s.l := by unfold State.driveVideo State.videoStep; split <;> [split <;> rfl; rfl]
@[simp] theorem State.driveVideo_sp : (s.driveVideo).sp = s.sp := by unfold State.driveVideo State.videoStep; split <;> [split <;> rfl; rfl]
@[simp] theorem State.driveVideo_pc : (s.driveVideo).pc = s.pc := by unfold State.driveVideo State.videoStep; split <;> [split <;> rfl; rfl]
@[simp] theorem State.driveVideo_execState : (s.driveVideo).execState = s.execState := by unfold State.driveVideo State.videoStep; split <;> [split <;> rfl; rfl]
@[simp] theorem State.driveVideo_ime : (s.driveVideo).ime = s.ime := by unfold State.driveVideo State.videoStep; split <;> [split <;> rfl; rfl]
@[simp] theorem State.driveVideo_cbLatch : (s.driveVideo).cbLatch = s.cbLatch := by unfold State.driveVideo State.videoStep; split <;> [split <;> rfl; rfl]
@[simp] theorem State.driveVideo_fault : (s.driveVideo).fault = s.fault := by unfold State.driveVideo State.videoStep; split <;> [split <;> rfl; rfl]
@[simp] theorem State.driveVideo_overlayMapped : (s.driveVideo).overlayMapped = s.overlayMapped := by unfold State.driveVideo State.videoStep; split <;> [split <;> rfl; rfl]
@[simp] theorem State.driveVideo_mem : (s.driveVideo).mem = s.mem := by unfold State.driveVideo State.videoStep; split <;> [split <;> rfl; rfl]
@[simp] theorem State.driveVideo_units : (s.driveVideo).units = s.units := by unfold State.driveVideo State.videoStep; split <;> [split <;> rfl; rfl]
@[simp] theorem State.driveVideo_params : (s.driveVideo).params = s.params := by unfold State.driveVideo State.videoStep; split <;> [split <;> rfl; rfl]

end Sys2Proof.Machine
end

