-- ==== Sys2Proof/Laws/Exec.lean ====
section
/-! SUPPORT. What `exec` does, once per rule form: the effect of the form over the shared operations, and its cost. The
lemmas join all instructions to their forms, so that a proof about every instruction takes one case per form. -/

namespace Sys2Proof

open Sys2Proof.Machine

/-- Every instruction is the instruction of its form, read back from the constructor. -/
theorem Instr.exists_form (i : Instr) : ∃ f : Form, i = f.instr := ⟨i.form, by cases i <;> rfl⟩

/-- The state a form's execution leaves, the count aside. -/
def Form.effect (f : Form) (s : State) : State :=
  match f with
  | .ld y z => if y = .atHl ∧ z = .atHl then s.halt else s.move8 y z
  | .ldImm y n => s.writeR8 y n
  | .ldAtBcA => s.storeA s.bc
  | .ldAtDeA => s.storeA s.de
  | .ldAAtBc => s.loadA s.bc
  | .ldAAtDe => s.loadA s.de
  | .ldAtHliA => (s.storeA s.hl).stepHlUp
  | .ldAtHldA => (s.storeA s.hl).stepHlDown
  | .ldAAtHli => (s.loadA s.hl).stepHlUp
  | .ldAAtHld => (s.loadA s.hl).stepHlDown
  | .ldAtA16A a => s.storeA a
  | .ldAAtA16 a => s.loadA a
  | .ldHlSpE8 e => s.loadHlSp e
  | .ldRp p v => s.writeRp p v
  | .ldAtA16Sp a => s.writeWord a s.sp
  | .ldSpHl => { s with sp := s.hl }
  | .inc y => s.inc8 y
  | .dec y => s.dec8 y
  | .incRp p => s.incRp p
  | .decRp p => s.decRp p
  | .alu op z => s.aluR8 op z
  | .aluImm op n => s.aluWith op n
  | .addHl p => s.addHl p
  | .addSpE8 e => s.addSp e
  | .daa => s.daa
  | .cpl => s.cpl
  | .scf => s.scf
  | .ccf => s.ccf
  | .rlca => s.rotateA .rlc
  | .rrca => s.rotateA .rrc
  | .rla => s.rotateA .rl
  | .rra => s.rotateA .rr
  | .jr e => s.jumpBy e
  | .jrCc k e => if s.cond k then s.jumpBy e else s
  | .jp a => s.jumpTo a
  | .jpHl => s.jumpTo s.hl
  | .jpCc k a => if s.cond k then s.jumpTo a else s
  | .call a => s.callTo a
  | .callCc k a => if s.cond k then s.callTo a else s
  | .ret => s.returnPop
  | .retCc k => if s.cond k then s.returnPop else s
  | .reti => s.returnSetIme
  | .rst y => s.callTo (rstTarget y)
  | .push p => s.pushRp2 p
  | .pop p => s.popRp2 p
  | .ldhAtA8A o => s.storeA (ioAddress o)
  | .ldhAAtA8 o => s.loadA (ioAddress o)
  | .ldAtCA => s.storeA (ioAddress s.c)
  | .ldAAtC => s.loadA (ioAddress s.c)
  | .prefixCb => s.enterSecondary
  | .rot op z => s.rotR8 op z
  | .bit y z => s.bitR8 y z
  | .res y z => s.resR8 y z
  | .set y z => s.setR8 y z
  | .nop => s
  | .halt => s.halt
  | .stop _ => s.halt
  | .di => s.setIme false
  | .ei => s.setIme true

/-- The clock periods a form's execution costs. -/
def Form.cost (f : Form) (s : State) : Nat :=
  match f with
  | .jrCc k _ => if s.cond k then f.instr.row.base else f.instr.row.alt
  | .jpCc k _ => if s.cond k then f.instr.row.base else f.instr.row.alt
  | .callCc k _ => if s.cond k then f.instr.row.base else f.instr.row.alt
  | .retCc k => if s.cond k then f.instr.row.base else f.instr.row.alt
  | _ => f.instr.row.base

/-- A conditional transfer, as one effect and one cost (30_encoding.md R102). -/
theorem conditional_eq (s : State) (k : Cc) (t : State) (base alt : Nat) :
    s.conditional k t base alt = (if s.cond k then t else s).completes (if s.cond k then base else alt) := by
  unfold State.conditional
  split <;> rfl

/-- What `exec` does with the instruction of a form: its effect, at its cost. -/
theorem exec_form (f : Form) (s : State) : exec f.instr s = (f.effect s).completes (f.cost s) := by
  cases f with
  | ld y z => cases y <;> cases z <;> rfl
  | ldImm y n => cases y <;> rfl
  | ldRp p v => cases p <;> rfl
  | inc y => cases y <;> rfl
  | dec y => cases y <;> rfl
  | incRp p => cases p <;> rfl
  | decRp p => cases p <;> rfl
  | alu op z => cases op <;> cases z <;> rfl
  | aluImm op n => cases op <;> rfl
  | addHl p => cases p <;> rfl
  | jrCc k e => cases k <;> exact conditional_eq s _ _ _ _
  | jpCc k a => cases k <;> exact conditional_eq s _ _ _ _
  | callCc k a => cases k <;> exact conditional_eq s _ _ _ _
  | retCc k => cases k <;> exact conditional_eq s _ _ _ _
  | rst y => match y with | 0 | 1 | 2 | 3 | 4 | 5 | 6 | 7 => rfl
  | push p => cases p <;> rfl
  | pop p => cases p <;> rfl
  | rot op z => cases op <;> cases z <;> rfl
  | bit y z => cases z <;> (match y with | 0 | 1 | 2 | 3 | 4 | 5 | 6 | 7 => rfl)
  | res y z => cases z <;> (match y with | 0 | 1 | 2 | 3 | 4 | 5 | 6 | 7 => rfl)
  | set y z => cases z <;> (match y with | 0 | 1 | 2 | 3 | 4 | 5 | 6 | 7 => rfl)
  | _ => rfl

/-- Every execution answers a next state: the effect of the instruction's form, with the count. -/
theorem exec_next {i : Instr} {s t : State} (h : exec i s = .next t) :
    ∃ f : Form, i = f.instr ∧ t = { f.effect s with units := some (f.cost s / (f.effect s).params.tPerUnit.periods) } := by
  obtain ⟨f, rfl⟩ := i.exists_form
  rw [exec_form] at h
  exact ⟨f, rfl, (Host.Outcome.next.inj h).symm⟩

/-- The form of a form's instruction is that form, but for the two names of HALT. -/
theorem Form.form_instr (f : Form) : f.instr.form = if f = .ld .atHl .atHl then .halt else f := by
  cases f with
  | ld y z => cases y <;> cases z <;> rfl
  | ldImm y n => cases y <;> rfl
  | ldRp p v => cases p <;> rfl
  | inc y => cases y <;> rfl
  | dec y => cases y <;> rfl
  | incRp p => cases p <;> rfl
  | decRp p => cases p <;> rfl
  | alu op z => cases op <;> cases z <;> rfl
  | aluImm op n => cases op <;> rfl
  | addHl p => cases p <;> rfl
  | jrCc k e => cases k <;> rfl
  | jpCc k a => cases k <;> rfl
  | callCc k a => cases k <;> rfl
  | retCc k => cases k <;> rfl
  | rst y => match y with | 0 | 1 | 2 | 3 | 4 | 5 | 6 | 7 => rfl
  | push p => cases p <;> rfl
  | pop p => cases p <;> rfl
  | rot op z => cases op <;> cases z <;> rfl
  | bit y z => cases z <;> (match y with | 0 | 1 | 2 | 3 | 4 | 5 | 6 | 7 => rfl)
  | res y z => cases z <;> (match y with | 0 | 1 | 2 | 3 | 4 | 5 | 6 | 7 => rfl)
  | set y z => cases z <;> (match y with | 0 | 1 | 2 | 3 | 4 | 5 | 6 | 7 => rfl)
  | _ => rfl

end Sys2Proof
end

