-- ==== Sys2Proof/Laws/Flags.lean ====
section
/-! SUPPORT. Spec lemmas of the flags of F and of the computations that give them, over the natural numbers. -/

namespace Sys2Proof.Machine

/-! ## F -/

@[simp] theorem packFlags_mask (z n h c : Bool) : packFlags z n h c &&& 0xF0#8 = packFlags z n h c := by
  revert z n h c; decide

/-- The flags stand at bits 7, 6, 5 and 4 (10_state.md R22). -/
theorem packFlags_eq (z n h c : Bool) :
    packFlags z n h c = BitVec.ofNat 8 (128 * z.toNat + 64 * n.toNat + 32 * h.toNat + 16 * c.toNat) := by
  revert z n h c; decide

@[simp] theorem State.setFlags_flagZ (s : State) (z n h c : Bool) : (s.setFlags z n h c).flagZ = z := by
  unfold State.flagZ; rw [State.setFlags_f, packFlags_mask]; revert z n h c; decide
@[simp] theorem State.setFlags_flagN (s : State) (z n h c : Bool) : (s.setFlags z n h c).flagN = n := by
  unfold State.flagN; rw [State.setFlags_f, packFlags_mask]; revert z n h c; decide
@[simp] theorem State.setFlags_flagH (s : State) (z n h c : Bool) : (s.setFlags z n h c).flagH = h := by
  unfold State.flagH; rw [State.setFlags_f, packFlags_mask]; revert z n h c; decide
@[simp] theorem State.setFlags_flagC (s : State) (z n h c : Bool) : (s.setFlags z n h c).flagC = c := by
  unfold State.flagC; rw [State.setFlags_f, packFlags_mask]; revert z n h c; decide

/-- A write to F clears the low nibble (R23). -/
theorem State.writeF_low (s : State) (v : Byte) : (s.writeF v).f &&& 0x0F#8 = 0x00#8 := by
  show v &&& 0xF0#8 &&& 0x0F#8 = 0x00#8
  rw [BitVec.and_assoc]
  exact BitVec.and_zero

theorem State.setFlags_low (s : State) (z n h c : Bool) : (s.setFlags z n h c).f &&& 0x0F#8 = 0x00#8 :=
  State.writeF_low s _

/-- F is its four flags when the low nibble is 0. -/
theorem packFlags_self (v : Byte) (h : v &&& 0x0F#8 = 0x00#8) :
    packFlags (bitOf v 7) (bitOf v 6) (bitOf v 5) (bitOf v 4) = v := by
  revert v; decide +kernel

/-! ## Carries and arithmetic -/

theorem bitByte_toNat (c : Bool) : (bitByte c).toNat = c.toNat := by cases c <;> rfl

theorem beq_zero_eq (v : Byte) : (v == 0) = decide (v.toNat = 0) := by
  rw [Bool.eq_iff_iff, beq_iff_eq, decide_eq_true_iff]
  exact ⟨fun h => by rw [h]; rfl, fun h => BitVec.eq_of_toNat_eq h⟩

/-- The values of the ALU operations as numbers (43_alu.md R170–R177). -/
theorem alu_value_toNat (op : AluOp) (a v : Byte) (c : Bool) : (alu op a v c).value.toNat =
    match op with
    | .add => (a.toNat + v.toNat) % 256
    | .adc => (a.toNat + v.toNat + c.toNat) % 256
    | .sub => (a.toNat + 256 - v.toNat) % 256
    | .sbc => (a.toNat + 512 - v.toNat - c.toNat) % 256
    | .and => a.toNat &&& v.toNat
    | .xor => a.toNat ^^^ v.toNat
    | .or => a.toNat ||| v.toNat
    | .cp => a.toNat := by
  have ha := a.isLt
  have hv := v.isLt
  have hc : c.toNat ≤ 1 := Bool.toNat_le c
  cases op <;>
    simp only [alu, BitVec.toNat_add, BitVec.toNat_sub, BitVec.toNat_and, BitVec.toNat_xor, BitVec.toNat_or,
      bitByte_toNat, Nat.reducePow] <;> omega

/-- A rotate or shift as numbers (48_prefix_cb.md R241–R248). -/
theorem rotate_eq (op : RotOp) (v : Byte) (c : Bool) : rotate op v c =
    match op with
    | .rlc => (BitVec.ofNat 8 (v.toNat * 2 % 256 + v.toNat / 128), decide (v.toNat / 128 = 1))
    | .rrc => (BitVec.ofNat 8 (v.toNat / 2 + v.toNat % 2 * 128), decide (v.toNat % 2 = 1))
    | .rl => (BitVec.ofNat 8 (v.toNat * 2 % 256 + c.toNat), decide (v.toNat / 128 = 1))
    | .rr => (BitVec.ofNat 8 (v.toNat / 2 + c.toNat * 128), decide (v.toNat % 2 = 1))
    | .sla => (BitVec.ofNat 8 (v.toNat * 2 % 256), decide (v.toNat / 128 = 1))
    | .sra => (BitVec.ofNat 8 (v.toNat / 2 + v.toNat / 128 * 128), decide (v.toNat % 2 = 1))
    | .swap => (BitVec.ofNat 8 (v.toNat % 16 * 16 + v.toNat / 16), false)
    | .srl => (BitVec.ofNat 8 (v.toNat / 2), decide (v.toNat % 2 = 1)) := by
  cases op <;> revert v c <;> decide +kernel

theorem incByte_eq (v : Byte) (c : Bool) : incByte v c =
    ⟨BitVec.ofNat 8 (v.toNat + 1), decide (v.toNat = 255), false, decide (v.toNat % 16 = 15), c⟩ := by
  revert v c; decide +kernel

theorem decByte_eq (v : Byte) (c : Bool) : decByte v c =
    ⟨BitVec.ofNat 8 (v.toNat + 255), decide (v.toNat = 1), true, decide (v.toNat % 16 = 0), c⟩ := by
  revert v c; decide +kernel

/-- `DAA` as numbers (43_alu.md R180). -/
theorem decimalAdjust_eq (a : Byte) (n h c : Bool) : decimalAdjust a n h c =
    if n then (BitVec.ofNat 8 (a.toNat + 256 - ((if c then 0x60 else 0) + (if h then 6 else 0))), c)
    else (BitVec.ofNat 8
        (a.toNat + ((if c ∨ a.toNat > 0x99 then 0x60 else 0) + (if h ∨ a.toNat % 16 > 9 then 6 else 0))),
      c || decide (a.toNat > 0x99)) := by
  revert a n h c; decide +kernel

end Sys2Proof.Machine
end

