-- ==== Sys2Proof/Laws/Memory.lean ====
section
/-! SUPPORT. The laws of the backing storage: read after write, and that every write keeps the canonical form. -/

namespace Sys2Proof.Machine

/-- Every key of the storage is above `k`. -/
abbrev Memory.above (k : Nat) (m : Memory) : Prop := ∀ c ∈ m, k < c.1

theorem Memory.read_of_above (m : Memory) (k : Nat) (h : Memory.above k m) : Memory.read m k = Memory.unlisted := by
  induction m with
  | nil => rfl
  | cons x m ih =>
    have hx := h x (by simp)
    simp only [Memory.read]
    rw [if_neg (by omega)]
    exact ih fun c hc => h c (by simp [hc])

theorem Memory.wf_cons {x : Host.Cell} {m : Memory} :
    Memory.wf (x :: m) ↔ Memory.above x.1 m ∧ x.2 ≠ Memory.unlisted ∧ Memory.wf m := by
  simp only [Memory.wf, Memory.above, List.pairwise_cons, List.forall_mem_cons]
  tauto

/-- The keys after a write are the old ones and possibly the written one. -/
theorem Memory.mem_write {m : Memory} {k : Nat} {v : Byte} {c : Host.Cell} (h : c ∈ Memory.write m k v) :
    c ∈ m ∨ c = (k, v) := by
  induction m with
  | nil => simp only [Memory.write] at h; split at h <;> simp_all
  | cons x m ih =>
    simp only [Memory.write] at h
    split at h
    · split at h
      · exact .inl h
      · rcases List.mem_cons.1 h with h | h
        · exact .inr h
        · exact .inl h
    · split at h
      · split at h
        · exact .inl (by simp [h])
        · rcases List.mem_cons.1 h with h | h
          · exact .inr h
          · exact .inl (by simp [h])
      · rcases List.mem_cons.1 h with h | h
        · exact .inl (by simp [h])
        · rcases ih h with h | h
          · exact .inl (by simp [h])
          · exact .inr h

/-- A write keeps the canonical form. -/
theorem Memory.write_wf (m : Memory) (k : Nat) (v : Byte) (h : Memory.wf m) : Memory.wf (Memory.write m k v) := by
  induction m with
  | nil =>
    simp only [Memory.write]
    split
    · exact h
    · next hv => exact Memory.wf_cons.2 ⟨by simp, hv, h⟩
  | cons x m ih =>
    obtain ⟨ha, hx, hm⟩ := Memory.wf_cons.1 h
    simp only [Memory.write]
    split
    · next hk =>
      split
      · exact h
      · next hv =>
        refine Memory.wf_cons.2 ⟨?_, hv, h⟩
        intro c hc
        rcases List.mem_cons.1 hc with rfl | hc
        · exact hk
        · exact Nat.lt_trans hk (ha c hc)
    · next hk =>
      split
      · next he =>
        split
        · exact hm
        · next hv => exact Memory.wf_cons.2 ⟨by rw [he]; exact ha, hv, hm⟩
      · next he =>
        refine Memory.wf_cons.2 ⟨?_, hx, ih hm⟩
        intro c hc
        rcases Memory.mem_write hc with hc | rfl
        · exact ha c hc
        · show x.1 < k
          omega

/-- Reading the written key gives the written byte; this needs the canonical form. -/
theorem Memory.read_write_same (m : Memory) (k : Nat) (v : Byte) (h : Memory.wf m) :
    Memory.read (Memory.write m k v) k = v := by
  induction m with
  | nil => simp only [Memory.write]; split <;> simp_all [Memory.read]
  | cons x m ih =>
    obtain ⟨ha, _, hm⟩ := Memory.wf_cons.1 h
    simp only [Memory.write]
    split
    · next hk =>
      split
      · next hv =>
        rw [hv]
        refine Memory.read_of_above _ _ ?_
        intro c hc
        rcases List.mem_cons.1 hc with rfl | hc
        · exact hk
        · exact Nat.lt_trans hk (ha c hc)
      · simp [Memory.read]
    · split
      · next he =>
        split
        · next hv => rw [hv]; exact Memory.read_of_above _ _ (by rw [he]; exact ha)
        · simp [Memory.read]
      · next he =>
        simp only [Memory.read]
        rw [if_neg (by omega)]
        exact ih hm

/-- Reading any other key gives what it gave. -/
theorem Memory.read_write_other (m : Memory) (k j : Nat) (v : Byte) (h : j ≠ k) :
    Memory.read (Memory.write m k v) j = Memory.read m j := by
  induction m with
  | nil =>
    simp only [Memory.write]
    split
    · rfl
    · simp only [Memory.read]; rw [if_neg (by omega)]
  | cons x m ih =>
    simp only [Memory.write]
    split
    · split
      · rfl
      · simp only [Memory.read]; rw [if_neg (by omega)]
    · split
      · next he =>
        split
        · simp only [Memory.read]; rw [if_neg (by omega)]
        · simp only [Memory.read]; rw [if_neg (by omega), if_neg (by omega)]
      · simp only [Memory.read, ih]

end Sys2Proof.Machine
end

