-- ==== Sys2Proof/Laws/Interconnect.lean ====
section
/-! SUPPORT. Spec lemmas of the memory interconnect (20_memory.md): what a read sees, where a write lands, and that
writes keep the storage canonical. -/

namespace Sys2Proof.Machine

/-- The backing cell of an address, by number ranges (R52). -/
theorem storageCell_eq (a : Word) : storageCell a =
    if 0x8000 ≤ a.toNat ∧ a.toNat ≤ 0x9FFF then some a.toNat
    else if 0xC000 ≤ a.toNat ∧ a.toNat ≤ 0xDFFF then some a.toNat
    else if 0xE000 ≤ a.toNat ∧ a.toNat ≤ 0xFDFF then some (a.toNat - 0x2000)
    else if 0xFF80 ≤ a.toNat ∧ a.toNat ≤ 0xFFFE then some a.toNat
    else none := by
  simp only [storageCell, regionOf, BitVec.le_def, BitVec.toNat_ofNat, Nat.reducePow, Nat.reduceMod]
  split_ifs <;> first | rfl | omega

/-- A read, in terms of the backing cell: the overlay range aside, the cell's byte or 0x00 (R53, R55). -/
theorem State.readByte_eq (s : State) (a : Word) : s.readByte a =
    if a.toNat ≤ 0xFF then (if s.overlayMapped then Memory.read s.params.bootRom a.toNat else 0x00#8)
    else match storageCell a with
      | some k => Memory.read s.mem k
      | none => 0x00#8 := by
  rw [storageCell_eq]
  simp only [State.readByte, regionOf, BitVec.le_def, BitVec.toNat_ofNat, Nat.reducePow, Nat.reduceMod]
  split_ifs <;> rfl

/-- Every cell is a byte of VRAM, WRAM or HRAM. -/
theorem storageCell_isCell {a : Word} {k : Nat} (h : storageCell a = some k) : isCell k = true := by
  rw [storageCell_eq] at h
  simp only [isCell, Bool.or_eq_true, Bool.and_eq_true, decide_eq_true_eq]
  split_ifs at h <;> simp only [Option.some.injEq] at h <;> omega

/-- An address with a cell is above the overlay range. -/
theorem overlay_lt_of_storageCell {a : Word} {k : Nat} (h : storageCell a = some k) : 0xFF < a.toNat := by
  rw [storageCell_eq] at h
  split_ifs at h <;> omega

@[simp] theorem State.writeByte_overlayMapped (s : State) (a : Word) (v : Byte) :
    (s.writeByte a v).overlayMapped = if a = 0xFF50#16 ∧ v ≠ 0x00#8 then false else s.overlayMapped := rfl

/-- Where a written byte lands (R56): in the cell, if the address has one. -/
theorem State.writeByte_mem_some {s : State} {a : Word} {v : Byte} {k : Nat} (h : storageCell a = some k) :
    (s.writeByte a v).mem = Memory.write s.mem k v := by simp only [State.writeByte, h]

/-- A byte written to an address without a cell is discarded (R53, R60). -/
theorem State.writeByte_mem_none {s : State} {a : Word} {v : Byte} (h : storageCell a = none) :
    (s.writeByte a v).mem = s.mem := by simp only [State.writeByte, h]

/-- A write keeps the storage canonical. -/
theorem State.writeByte_wf (s : State) (a : Word) (v : Byte) (h : Memory.wf s.mem) : Memory.wf (s.writeByte a v).mem := by
  cases hc : storageCell a with
  | none => rw [State.writeByte_mem_none hc]; exact h
  | some k => rw [State.writeByte_mem_some hc]; exact Memory.write_wf _ _ _ h

/-- A write lists no byte outside RAM. -/
theorem State.writeByte_cells (s : State) (a : Word) (v : Byte) (h : ∀ c ∈ s.mem, isCell c.1 = true) :
    ∀ c ∈ (s.writeByte a v).mem, isCell c.1 = true := by
  cases hc : storageCell a with
  | none => rw [State.writeByte_mem_none hc]; exact h
  | some k =>
    rw [State.writeByte_mem_some hc]
    intro c hm
    rcases Memory.mem_write hm with hm | rfl
    · exact h c hm
    · exact storageCell_isCell hc

/-- A byte of RAM reads as written through every address of its cell. -/
theorem State.readByte_writeByte_same (s : State) (a b : Word) (v : Byte) (k : Nat) (hw : Memory.wf s.mem)
    (ha : storageCell a = some k) (hb : storageCell b = some k) : (s.writeByte a v).readByte b = v := by
  have := overlay_lt_of_storageCell hb
  rw [State.readByte_eq, if_neg (by omega), hb, State.writeByte_mem_some ha]
  exact Memory.read_write_same _ _ _ hw

/-- Every address above the overlay range with another cell, or none, reads as before. -/
theorem State.readByte_writeByte_other (s : State) (a b : Word) (v : Byte) (h : 0xFF < b.toNat)
    (hab : ∀ k, ¬ (storageCell a = some k ∧ storageCell b = some k)) : (s.writeByte a v).readByte b = s.readByte b := by
  rw [State.readByte_eq, State.readByte_eq, if_neg (by omega), if_neg (by omega)]
  cases hb : storageCell b with
  | none => rfl
  | some k =>
    cases ha : storageCell a with
    | none => rw [State.writeByte_mem_none ha]
    | some j =>
      rw [State.writeByte_mem_some ha]
      exact Memory.read_write_other _ _ _ _ fun h => hab k ⟨by rw [ha, h], hb⟩

/-- In the overlay range a write is seen only through the overlay flag (R60, R61). -/
theorem State.readByte_writeByte_overlay (s : State) (a b : Word) (v : Byte) (h : b.toNat ≤ 0xFF) :
    (s.writeByte a v).readByte b = if a = 0xFF50#16 ∧ v ≠ 0x00#8 then 0x00#8 else s.readByte b := by
  rw [State.readByte_eq, State.readByte_eq, if_pos h, if_pos h, State.writeByte_overlayMapped]
  split <;> rfl

/-- Reading depends on nothing but the overlay flag, the boot image and the storage. -/
theorem State.readByte_congr {s t : State} (ho : t.overlayMapped = s.overlayMapped) (hm : t.mem = s.mem)
    (hp : t.params.bootRom = s.params.bootRom) (a : Word) : t.readByte a = s.readByte a := by
  rw [State.readByte_eq, State.readByte_eq, ho, hm, hp]

end Sys2Proof.Machine
end

