-- ==== Sys2Proof/Laws/Step.lean ====
section
/-! SUPPORT. Everything a step can do, said once: the start of a step, the frames every form's effect keeps, and the three
ways a step answers a next state. -/

namespace Sys2Proof.Machine

/-! ## The start of a step -/

/-- A run starts its instruction with the latch clear, PC past its bytes and nothing else changed; its byte was found. -/
theorem State.beginStep_run {s u : State} {i : Instr} (h : s.beginStep = .run i u) :
    s.execState = .running ∧ lookup s.params s.decodeSpace s.fetchedByte ≠ none ∧
      u = { s with pc := u.pc, cbLatch := false } := by
  unfold State.beginStep at h
  split at h
  · cases h
  · next he =>
    refine ⟨he, ?_⟩
    split at h <;> cases h <;> next hl => exact ⟨by rw [hl]; exact Option.some_ne_none _, rfl⟩

theorem State.beginStep_idle {s u : State} (h : s.beginStep = .idle u) :
    s.execState = .halted ∧ u = { s with units := some 1 } := by
  unfold State.beginStep at h
  split at h
  · next he => exact ⟨he, (Begun.idle.inj h).symm⟩
  · split at h <;> cases h

theorem State.beginStep_failed {s u : State} (h : s.beginStep = .failed u) :
    s.execState = .running ∧ lookup s.params s.decodeSpace s.fetchedByte = none ∧
      u = s.afterOpcode.takeDecodeFailure s.decodeSpace s.fetchedByte := by
  unfold State.beginStep at h
  split at h
  · cases h
  · next he =>
    split at h
    · next hl => exact ⟨he, hl, (Begun.failed.inj h).symm⟩
    all_goals cases h

/-- The three ways a step answers a next state: a Halted step, a decode failure, an execution. -/
theorem step_cases {s t : State} (h : step s = .next t) :
    s.fault = none ∧
      ((s.execState = .halted ∧ t = State.driveVideo { s with units := some 1 }) ∨
        (s.execState = .running ∧ lookup s.params s.decodeSpace s.fetchedByte = none ∧
          t = s.afterOpcode.takeDecodeFailure s.decodeSpace s.fetchedByte) ∨
        (s.execState = .running ∧ lookup s.params s.decodeSpace s.fetchedByte ≠ none ∧
          ∃ (f : Form) (u : State), s.beginStep = .run f.instr u ∧ u = { s with pc := u.pc, cbLatch := false } ∧
            t = State.driveVideo
              { f.effect u with units := some (f.cost u / (f.effect u).params.tPerUnit.periods) })) := by
  unfold step at h
  split at h
  · cases h
  · next hf =>
    refine ⟨hf, ?_⟩
    split at h
    · next u hb =>
      obtain ⟨he, rfl⟩ := State.beginStep_idle hb
      exact .inl ⟨he, (Host.Outcome.next.inj h).symm⟩
    · next u hb =>
      obtain ⟨he, hl, rfl⟩ := State.beginStep_failed hb
      exact .inr (.inl ⟨he, hl, (Host.Outcome.next.inj h).symm⟩)
    · next i u hb =>
      obtain ⟨he, hl, hu⟩ := State.beginStep_run hb
      obtain ⟨f, rfl⟩ := i.exists_form
      rw [exec_form] at h
      exact .inr (.inr ⟨he, hl, f, u, hb, hu, (Host.Outcome.next.inj h).symm⟩)

end Sys2Proof.Machine

namespace Sys2Proof

open Sys2Proof.Machine

/-! ## Frames of every effect -/

/-- What no form writes. -/
theorem Form.effect_frame (f : Form) (s : State) :
    (f.effect s).fault = s.fault ∧ (f.effect s).params = s.params ∧ (f.effect s).video = s.video ∧
      (f.effect s).fb = s.fb := by
  cases f with
  | ld y z => simp only [Form.effect]; split <;> [exact ⟨rfl, rfl, rfl, rfl⟩; (cases y <;> exact ⟨rfl, rfl, rfl, rfl⟩)]
  | ldImm y n => cases y <;> exact ⟨rfl, rfl, rfl, rfl⟩
  | ldRp p v => cases p <;> exact ⟨rfl, rfl, rfl, rfl⟩
  | inc y => cases y <;> exact ⟨rfl, rfl, rfl, rfl⟩
  | dec y => cases y <;> exact ⟨rfl, rfl, rfl, rfl⟩
  | incRp p => cases p <;> exact ⟨rfl, rfl, rfl, rfl⟩
  | decRp p => cases p <;> exact ⟨rfl, rfl, rfl, rfl⟩
  | pop p => cases p <;> exact ⟨rfl, rfl, rfl, rfl⟩
  | rot op z => cases z <;> exact ⟨rfl, rfl, rfl, rfl⟩
  | res y z => cases z <;> exact ⟨rfl, rfl, rfl, rfl⟩
  | set y z => cases z <;> exact ⟨rfl, rfl, rfl, rfl⟩
  | jrCc k e => simp only [Form.effect]; split <;> exact ⟨rfl, rfl, rfl, rfl⟩
  | jpCc k a => simp only [Form.effect]; split <;> exact ⟨rfl, rfl, rfl, rfl⟩
  | callCc k a => simp only [Form.effect]; split <;> exact ⟨rfl, rfl, rfl, rfl⟩
  | retCc k => simp only [Form.effect]; split <;> exact ⟨rfl, rfl, rfl, rfl⟩
  | _ => exact ⟨rfl, rfl, rfl, rfl⟩

end Sys2Proof
end

