-- ==== Sys2Proof/Laws/Video.lean ====
section
/-! SUPPORT. Spec lemmas of the video state machine (60_exceptions.md R279–R282): the bound on the passes is enough, one
pass unrolls the loop, and the line and mode stay in step. -/

namespace Sys2Proof.Machine

theorem VideoMode.eighty_le_duration (m : VideoMode) : 80 ≤ m.duration := by cases m <;> decide

theorem VideoMode.duration_le (m : VideoMode) : m.duration ≤ 456 := by cases m <;> decide

/-- A pass takes the mode's duration off the accumulator. -/
theorem Video.pass_acc (v : Video) : v.pass.acc = v.acc - v.mode.duration := by
  cases h : v.mode <;> simp only [Video.pass, h]
  split <;> rfl

theorem Video.pass_of_oamScan {v : Video} (h : v.mode = .oamScan) :
    v.pass = { v with mode := .drawing, acc := v.acc - 80 } := by unfold Video.pass; rw [h]; rfl

theorem Video.pass_of_drawing {v : Video} (h : v.mode = .drawing) :
    v.pass = { v with mode := .hblank, acc := v.acc - 172 } := by unfold Video.pass; rw [h]; rfl

theorem Video.pass_of_hblank {v : Video} (h : v.mode = .hblank) :
    v.pass =
      { mode := if v.line + 1 = 144 then .vblank else .oamScan, line := v.line + 1, acc := v.acc - 204 } := by
  unfold Video.pass; rw [h]; rfl

theorem Video.pass_of_vblank {v : Video} (h : v.mode = .vblank) :
    v.pass =
      if v.line + 1 = 154 then { mode := .oamScan, line := 0, acc := v.acc - 456 }
      else { mode := .vblank, line := v.line + 1, acc := v.acc - 456 } := by
  unfold Video.pass; rw [h]; rfl

theorem Video.loop_of_lt (k : Nat) (v : Video) (h : v.acc < v.mode.duration) : Video.loop k v = v := by
  cases k with
  | zero => rfl
  | succ k => simp only [Video.loop, h, if_true]

theorem Video.loop_succ_of_le (k : Nat) (v : Video) (h : v.mode.duration ≤ v.acc) :
    Video.loop (k + 1) v = Video.loop k v.pass := by
  simp only [Video.loop, if_neg (Nat.not_lt.2 h)]

/-- With `VACC / 80` passes or more the loop has ended. -/
theorem Video.loop_acc_lt (k : Nat) (v : Video) (h : v.acc / 80 ≤ k) :
    (Video.loop k v).acc < (Video.loop k v).mode.duration := by
  induction k generalizing v with
  | zero =>
    have := v.mode.eighty_le_duration
    show v.acc < v.mode.duration
    omega
  | succ k ih =>
    by_cases hv : v.acc < v.mode.duration
    · rw [Video.loop_of_lt _ _ hv]; exact hv
    · have := v.mode.eighty_le_duration
      rw [Video.loop_succ_of_le _ _ (by omega)]
      exact ih _ (by rw [Video.pass_acc]; omega)

/-- Any two numbers of passes that are enough give the same. -/
theorem Video.loop_enough (k j : Nat) (v : Video) (hk : v.acc / 80 ≤ k) (hj : v.acc / 80 ≤ j) :
    Video.loop k v = Video.loop j v := by
  induction k generalizing j v with
  | zero =>
    have := v.mode.eighty_le_duration
    rw [Video.loop_of_lt j v (by omega)]
    rfl
  | succ k ih =>
    by_cases hv : v.acc < v.mode.duration
    · rw [Video.loop_of_lt _ _ hv, Video.loop_of_lt _ _ hv]
    · have h80 := v.mode.eighty_le_duration
      have hp := v.pass_acc
      obtain ⟨i, rfl⟩ : ∃ i, j = i + 1 := ⟨j - 1, by omega⟩
      rw [Video.loop_succ_of_le _ _ (by omega), Video.loop_succ_of_le _ _ (by omega)]
      exact ih _ _ (by omega) (by omega)

/-- `advance` where the mode has not ended (R282). -/
theorem Video.advance_of_lt (v : Video) (t : Nat) (h : v.acc + t < v.mode.duration) :
    v.advance t = { v with acc := v.acc + t } := Video.loop_of_lt _ _ h

/-- `advance` where the mode has ended: one pass, and `advance` again (R282). -/
theorem Video.advance_of_le (v : Video) (t : Nat) (h : v.mode.duration ≤ v.acc + t) :
    v.advance t = (Video.pass { v with acc := v.acc + t }).advance 0 := by
  have h80 := v.mode.eighty_le_duration
  have hp : (Video.pass { v with acc := v.acc + t }).acc = v.acc + t - v.mode.duration := Video.pass_acc _
  obtain ⟨k, hk⟩ : ∃ k, (v.acc + t) / 80 = k + 1 := ⟨(v.acc + t) / 80 - 1, by omega⟩
  unfold Video.advance
  rw [hk, Video.loop_succ_of_le _ _ h]
  exact Video.loop_enough _ _ _ (by omega) (Nat.le_refl _)

theorem Video.advance_acc_lt (v : Video) (t : Nat) : (v.advance t).acc < (v.advance t).mode.duration :=
  Video.loop_acc_lt _ _ (Nat.le_refl _)

/-- The line is one of the frame, and VBLANK is the mode on lines 144..153 only (R280). -/
def Video.inFrame (v : Video) : Prop := v.line < 154 ∧ (v.mode = .vblank ↔ 144 ≤ v.line)

theorem Video.pass_inFrame (v : Video) (h : v.inFrame) : v.pass.inFrame := by
  obtain ⟨hl, hm⟩ := h
  cases hv : v.mode <;> simp only [hv, reduceCtorEq, false_iff, true_iff, Nat.not_le] at hm <;> simp only [Video.pass, hv]
  · exact ⟨hl, by simp only [reduceCtorEq, false_iff]; omega⟩
  · exact ⟨hl, by simp only [reduceCtorEq, false_iff]; omega⟩
  · split
    · exact ⟨by simp only; omega, by simp only [true_iff]; omega⟩
    · exact ⟨by simp only; omega, by simp only [reduceCtorEq, false_iff]; omega⟩
  · split
    · exact ⟨by simp only; omega, by simp only [reduceCtorEq, false_iff]; omega⟩
    · exact ⟨by simp only; omega, by simp only [true_iff]; omega⟩

theorem Video.loop_inFrame (k : Nat) (v : Video) (h : v.inFrame) : (Video.loop k v).inFrame := by
  induction k generalizing v with
  | zero => exact h
  | succ k ih =>
    simp only [Video.loop]
    split
    · exact h
    · exact ih _ (v.pass_inFrame h)

theorem Video.ok_iff (v : Video) : v.ok = true ↔ v.inFrame ∧ v.acc < v.mode.duration := by
  simp only [Video.ok, Video.inFrame, Bool.and_eq_true, decide_eq_true_eq, beq_iff_eq, decide_eq_decide]

/-- `advance` keeps the video state one the machine can be in. -/
theorem Video.advance_ok (v : Video) (t : Nat) (h : v.ok = true) : (v.advance t).ok = true :=
  (Video.ok_iff _).2 ⟨Video.loop_inFrame _ { v with acc := v.acc + t } ((Video.ok_iff v).1 h).1, v.advance_acc_lt t⟩

theorem State.videoStep_ok (s : State) (n : Nat) (h : s.video.ok = true) : (s.videoStep n).video.ok = true := by
  unfold State.videoStep
  split
  · exact h
  · exact Video.advance_ok _ _ h

theorem State.driveVideo_ok (s : State) (h : s.video.ok = true) : s.driveVideo.video.ok = true := by
  unfold State.driveVideo
  split
  · exact State.videoStep_ok _ _ h
  · exact h

end Sys2Proof.Machine
end

