-- ==== Sys2Proof/Tests/Slice0.lean ====
section
/-! SUPPORT. Tests of the model: what well-formedness refuses, decodings of words written out from the spec's encodings,
single steps whose expected results are the vectors of 95_test_vectors.md, and, for each statement with hypotheses, a
concrete state and operands that meet them. -/

namespace Sys2Proof.Tests

open Sys2Proof.Machine Sys2Proof.Statement

/-! ## Helpers -/

/-- The start of a vector: power-on with the bytes in WRAM from 0xC000 and PC there (95_test_vectors.md section 0). -/
def start (bytes : List Byte) : State :=
  { State.powerOn Params.standard (Memory.writeAll [] 0xC000 bytes) with pc := 0xC000#16 }

/-- A secondary-space byte at 0xC001 after its prefix step. -/
def prefixed (b : Byte) : State := { start [0xCB#8, b] with pc := 0xC001#16, cbLatch := true }

/-- A state with one more byte of RAM set. -/
def poke (s : State) (k : Nat) (v : Byte) : State := { s with mem := Memory.write s.mem k v }

/-- What a view gives after one step; none where the step answers no state. -/
def after {α : Type} (s : State) (view : State → α) : Option α :=
  match step s with
  | .next t => some (view t)
  | .fault _ => none
  | .refused _ => none

/-! ## Well-formedness -/

/-- Parameters whose coverage leaves out NOP and, in the secondary space, SWAP A. -/
def partialCoverage : Params := { Params.standard with unmapped := [(.primary, 0x00#8), (.secondary, 0x37#8)] }

theorem test_wf_refuses_unmapped_primary : Instr.wf partialCoverage .nop = false := by decide
theorem test_wf_refuses_unmapped_secondary : Instr.wf partialCoverage .swapA = false := by decide
theorem test_wf_accepts_mapped : Instr.wf partialCoverage (.ldHD8 0xFF#8) = true := by decide
theorem test_wf_refuses_boot_image_out_of_order :
    Params.bootRomWf { Params.standard with bootRom := [(2, 0x31#8), (1, 0xFE#8)] } = false := by decide
theorem test_wf_refuses_boot_image_with_unlisted_value :
    Params.bootRomWf { Params.standard with bootRom := [(1, 0x00#8)] } = false := by decide
theorem test_wf_refuses_boot_byte_past_the_overlay :
    Params.bootRomWf { Params.standard with bootRom := [(256, 0x31#8)] } = false := by decide
theorem test_wf_refuses_unmapping_an_illegal_byte :
    Params.unmappedWf { Params.standard with unmapped := [(.primary, 0xD3#8)] } = false := by decide
theorem test_wf_accepts_a_boot_image :
    Params.wf { partialCoverage with bootRom := [(0, 0x31#8), (1, 0xFE#8), (255, 0x50#8)] } = true := by decide

/-! ## Decoding: words from the encodings of 30_encoding.md, a few of each family -/

/-- `01 yyy zzz` with y = L (5) and z = (HL) (6) (R90). -/
theorem test_decode_load : decode .primary [0b01101110#8] = .ok (.ldLAtHl, []) := by rfl
/-- `00 yyy 110` with y = (HL) (R89). -/
theorem test_decode_load_immediate : decode .primary [0b00110110#8, 0x99#8] = .ok (.ldAtHlD8 0x99#8, []) := by rfl
/-- `00 pp 0 001` with pp = DE, low byte first (R89). -/
theorem test_decode_load_pair :
    decode .primary [0b00010001#8, 0x34#8, 0x12#8] = .ok (.ldDeD16 0x1234#16, []) := by rfl
/-- `00 100 100`, INC H, and `00 11 1 011`, DEC SP (R89). -/
theorem test_decode_increment :
    decode .primary [0b00100100#8] = .ok (.incH, []) ∧ decode .primary [0b00111011#8] = .ok (.decSp, []) := ⟨rfl, rfl⟩
/-- `10 111 000`, CP A,B, and `11 101 110`, XOR A,d8 (R91, R92). -/
theorem test_decode_alu :
    decode .primary [0b10111000#8] = .ok (.cpAB, []) ∧
    decode .primary [0b11101110#8, 0x0F#8] = .ok (.xorAD8 0x0F#8, []) := ⟨rfl, rfl⟩
/-- `00 010 111`, RLA (R89). -/
theorem test_decode_rotate : decode .primary [0b00010111#8] = .ok (.rla, []) := by rfl
/-- `00 1 10 000`, JR NC, and `11 0 01 010`, JP Z (R89, R92). -/
theorem test_decode_jump :
    decode .primary [0b00110000#8, 0xF0#8] = .ok (.jrNcE8 0xF0#8, []) ∧
    decode .primary [0b11001010#8, 0x00#8, 0xD0#8] = .ok (.jpZA16 0xD000#16, []) := ⟨rfl, rfl⟩
/-- `11 10 0 101`, PUSH HL, and `11 111 111`, RST 0x38 (R92). -/
theorem test_decode_stack :
    decode .primary [0b11100101#8] = .ok (.pushHl, []) ∧ decode .primary [0b11111111#8] = .ok (.rst38, []) := ⟨rfl, rfl⟩
/-- `11 110 000`, LDH A,(a8), and `11 100 010`, LD (C),A (R92). -/
theorem test_decode_io_page :
    decode .primary [0b11110000#8, 0x44#8] = .ok (.ldhAAtA8 0x44#8, []) ∧
    decode .primary [0b11100010#8] = .ok (.ldAtCA, []) := ⟨rfl, rfl⟩
/-- `00 110 111`, SWAP A; `01 000 110`, BIT 0,(HL); `10 111 000`, RES 7,B (R93). -/
theorem test_decode_secondary :
    decode .secondary [0b00110111#8] = .ok (.swapA, []) ∧ decode .secondary [0b01000110#8] = .ok (.bit0AtHl, []) ∧
    decode .secondary [0b10111000#8] = .ok (.res7B, []) := ⟨rfl, rfl, rfl⟩
/-- `00 010 000`, STOP, with its second byte, and `11 111 011`, EI (R89, R92, R97). -/
theorem test_decode_control :
    decode .primary [0b00010000#8, 0xFF#8] = .ok (.stop 0xFF#8, []) ∧ decode .primary [0b11111011#8] = .ok (.ei, []) :=
  ⟨rfl, rfl⟩
/-- 0xD3 is illegal in the primary space only (V120, V125). -/
theorem test_decode_illegal :
    decode .primary [0xD3#8] = .error (.noEntry .primary 0xD3#8) ∧ decode .secondary [0xD3#8] = .ok (.set2E, []) :=
  ⟨rfl, rfl⟩
/-- An instruction cut short is refused. -/
theorem test_decode_truncated : decode .primary [0xC3#8, 0x00#8] = .error .truncated := by rfl

/-- The table's words: SWAP A, and CALL a16 with operand words of zeros. -/
theorem test_table_words :
    decodeTableWord 16 0xCB37 = some .swapA ∧ decodeTableWord 8 0xCD = some (.callA16 0x0000#16) ∧
    decodeTableWord 8 0xFD = none := ⟨rfl, rfl, rfl⟩
/-- The step after reset runs the placed instruction. -/
theorem test_fetch_word_runs_first :
    after (State.reset.withFetchWord 8 0x3C) (fun t => (t.a, t.pc)) = some (0x01#8, 0x0001#16) := by decide
theorem test_fetch_word_secondary :
    after (State.reset.withFetchWord 16 0xCBC7) (fun t => (t.a, t.cbLatch)) = some (0x01#8, false) := by decide

/-! ## Single steps: the vectors of 95_test_vectors.md -/

/-- V4: the access at 0xFFFF, then HL wraps. -/
theorem test_v4 : after { start [0x2A#8] with a := 0x12#8, h := 0xFF#8, l := 0xFF#8 } (fun t => (t.a, t.hl, t.units)) =
    some (0x00#8, 0x0000#16, some 2) := by decide
/-- V6: SP stored, low byte at the lower address. -/
theorem test_v6 : after (start [0x08#8, 0x00#8, 0xC1#8])
    (fun t => (t.readByte 0xC100#16, t.readByte 0xC101#16, t.pc, t.units)) =
    some (0xFE#8, 0xFF#8, 0xC003#16, some 5) := by decide
/-- V7: Z is 0 although the result is 0. -/
theorem test_v7 : after { start [0xF8#8, 0x08#8] with sp := 0xFFF8#16 } (fun t => (t.hl, t.f, t.pc, t.units)) =
    some (0x0000#16, 0x30#8, 0xC002#16, some 3) := by decide
/-- V10: a read through the echo. -/
theorem test_v10 : after (poke (start [0xFA#8, 0x00#8, 0xE1#8]) 0xC100 0xAB#8) (fun t => (t.a, t.units)) =
    some (0xAB#8, some 4) := by decide
/-- V11 and V12: a non-zero byte at 0xFF50 unmaps the overlay, zero does not. -/
theorem test_v11 : after { start [0xEA#8, 0x50#8, 0xFF#8] with a := 0x01#8 } State.overlayMapped = some false := by
  decide
theorem test_v12 : after (start [0xEA#8, 0x50#8, 0xFF#8]) State.overlayMapped = some true := by decide
/-- V16: INC overflows to zero and keeps C. -/
theorem test_v16 : after { start [0x3C#8] with a := 0xFF#8, f := 0x10#8 } (fun t => (t.a, t.f)) =
    some (0x00#8, 0xB0#8) := by decide
/-- V20: the source's example of DEC. -/
theorem test_v20 : after (start [0x05#8]) (fun t => (t.b, t.f)) = some (0xFF#8, 0x60#8) := by decide
/-- V21: INC of an unbacked byte. -/
theorem test_v21 : after { start [0x34#8] with h := 0xA0#8 } (fun t => (t.readByte 0xA000#16, t.f, t.units)) =
    some (0x00#8, 0x00#8, some 3) := by decide
/-- V23: INC BC wraps, no flag changes. -/
theorem test_v23 : after { start [0x03#8] with b := 0xFF#8, c := 0xFF#8, f := 0xF0#8 } (fun t => (t.bc, t.f)) =
    some (0x0000#16, 0xF0#8) := by decide
/-- V25: ADD with every carry. -/
theorem test_v25 : after { start [0x80#8] with a := 0x3A#8, b := 0xC6#8 } (fun t => (t.a, t.f)) =
    some (0x00#8, 0xB0#8) := by decide
/-- V29: the carry-in alone overflows. -/
theorem test_v29 : after { start [0xCE#8, 0x00#8] with a := 0xFF#8, f := 0x10#8 } (fun t => (t.a, t.f)) =
    some (0x00#8, 0xB0#8) := by decide
/-- V34 and V35: SBC with borrows. -/
theorem test_v34 : after { start [0xDE#8, 0x4F#8] with a := 0x3B#8, f := 0x10#8 } (fun t => (t.a, t.f)) =
    some (0xEB#8, 0x70#8) := by decide
theorem test_v35 : after { start [0x9F#8] with a := 0x55#8, f := 0x10#8 } (fun t => (t.a, t.f)) =
    some (0xFF#8, 0x70#8) := by decide
/-- V38: AND sets H and clears C. -/
theorem test_v38 : after { start [0xE6#8, 0x00#8] with a := 0x5A#8, f := 0x10#8 } (fun t => (t.a, t.f)) =
    some (0x00#8, 0xA0#8) := by decide
/-- V45: CP leaves A. -/
theorem test_v45 : after { start [0xB8#8] with a := 0x3C#8, b := 0x2F#8 } (fun t => (t.a, t.f)) =
    some (0x3C#8, 0x60#8) := by decide
/-- V46 and V48: ADD HL keeps Z. -/
theorem test_v46 : after { start [0x09#8] with h := 0x8A#8, l := 0x23#8, b := 0x06#8, c := 0x05#8, f := 0x80#8 }
    (fun t => (t.hl, t.f)) = some (0x9028#16, 0xA0#8) := by decide
theorem test_v48 : after { start [0x39#8] with h := 0xFF#8, l := 0xFF#8, sp := 0x0001#16, f := 0x80#8 }
    (fun t => (t.hl, t.f, t.units)) = some (0x0000#16, 0xB0#8, some 2) := by decide
/-- V51: ADD SP with a negative displacement. -/
theorem test_v51 : after { start [0xE8#8, 0xFF#8] with sp := 0x0001#16 } (fun t => (t.sp, t.f, t.units)) =
    some (0x0000#16, 0x30#8, some 4) := by decide
/-- V54 and V56: DAA after an addition and after a subtraction. -/
theorem test_v54 : after { start [0x27#8] with a := 0x9A#8 } (fun t => (t.a, t.f)) = some (0x00#8, 0x90#8) := by
  decide
theorem test_v56 : after { start [0x27#8] with a := 0xF0#8, f := 0x50#8 } (fun t => (t.a, t.f)) =
    some (0x90#8, 0x50#8) := by decide
/-- V58, V59, V60. -/
theorem test_v58 : after { start [0x2F#8] with a := 0x35#8, f := 0x90#8 } (fun t => (t.a, t.f)) =
    some (0xCA#8, 0xF0#8) := by decide
theorem test_v59 : after { start [0x37#8] with f := 0xE0#8 } State.f = some 0x90#8 := by decide
theorem test_v60 : after { start [0x3F#8] with f := 0xF0#8 } State.f = some 0x80#8 := by decide
/-- V63 and V64: RRCA and RLA. -/
theorem test_v63 : after { start [0x0F#8] with a := 0x3B#8 } (fun t => (t.a, t.f)) = some (0x9D#8, 0x10#8) := by
  decide
theorem test_v64 : after { start [0x17#8] with a := 0x95#8, f := 0x10#8 } (fun t => (t.a, t.f)) =
    some (0x2B#8, 0x10#8) := by decide
/-- V66 and V67: Z by `ROT_A_Z`. -/
theorem test_v66 : after { start [0x17#8] with a := 0x80#8 } (fun t => (t.a, t.f)) = some (0x00#8, 0x90#8) := by
  decide
theorem test_v67 :
    after { start [0x17#8] with a := 0x80#8, params := { Params.standard with rotAZ := .cleared } }
      (fun t => (t.a, t.f)) = some (0x00#8, 0x10#8) := by decide
/-- V72 and V74: JR backwards, and across 0xFFFF. -/
theorem test_v72 : after (start [0x18#8, 0x80#8]) (fun t => (t.pc, t.units)) = some (0xBF82#16, some 3) := by
  decide
theorem test_v74 : after (poke (poke { start [] with pc := 0xFFFD#16 } 0xFFFD 0x18#8) 0xFFFE 0x01#8) State.pc =
    some 0x0000#16 := by decide
/-- V75: a jump not taken. -/
theorem test_v75 : after { start [0x30#8, 0xF0#8] with f := 0x10#8 } (fun t => (t.pc, t.units)) =
    some (0xC002#16, some 2) := by decide
/-- V77 and V78. -/
theorem test_v77 : after (start [0xC2#8, 0x00#8, 0xD0#8]) (fun t => (t.pc, t.units)) = some (0xD000#16, some 4) := by
  decide
theorem test_v78 : after (start [0xCA#8, 0x00#8, 0xD0#8]) (fun t => (t.pc, t.units)) = some (0xC003#16, some 3) := by
  decide
/-- V81: PUSH AF. -/
theorem test_v81 : after { start [0xF5#8] with a := 0x12#8, f := 0xB0#8, sp := 0xE000#16 }
    (fun t => (t.sp, t.readByte 0xDFFF#16, t.readByte 0xDFFE#16, t.units)) =
    some (0xDFFE#16, 0x12#8, 0xB0#8, some 4) := by decide
/-- V82: POP AF drops the low nibble. -/
theorem test_v82 : after (poke (poke { start [0xF1#8] with sp := 0xD000#16 } 0xD000 0xFF#8) 0xD001 0x12#8)
    (fun t => (t.a, t.f, t.sp, t.units)) = some (0x12#8, 0xF0#8, 0xD002#16, some 3) := by decide
/-- V85: POP across 0xFFFF, SP wraps. -/
theorem test_v85 : after { start [0xE1#8] with h := 0x12#8 } (fun t => (t.hl, t.sp)) = some (0x0000#16, 0x0000#16) := by
  decide
/-- V86 and V87: CALL, and CALL NZ not taken. -/
theorem test_v86 : after { start [0xCD#8, 0x00#8, 0xC1#8] with sp := 0xE000#16 }
    (fun t => (t.sp, t.readByte 0xDFFF#16, t.readByte 0xDFFE#16, t.pc, t.units)) =
    some (0xDFFE#16, 0xC0#8, 0x03#8, 0xC100#16, some 6) := by decide
theorem test_v87 : after { start [0xC4#8, 0x00#8, 0xC1#8] with sp := 0xE000#16, f := 0x80#8 }
    (fun t => (t.sp, t.pc, t.units)) = some (0xE000#16, 0xC003#16, some 3) := by decide
/-- V90, V91 and V92: returns. -/
theorem test_v90 : after (poke (poke { start [0xD0#8] with sp := 0xDFFE#16 } 0xDFFE 0x03#8) 0xDFFF 0xC0#8)
    (fun t => (t.pc, t.sp, t.units)) = some (0xC003#16, 0xE000#16, some 5) := by decide
theorem test_v91 : after { start [0xC8#8] with sp := 0xDFFE#16 } (fun t => (t.pc, t.sp, t.units)) =
    some (0xC001#16, 0xDFFE#16, some 2) := by decide
theorem test_v92 : after (poke (poke { start [0xD9#8] with sp := 0xDFFE#16 } 0xDFFE 0x03#8) 0xDFFF 0xC0#8)
    (fun t => (t.pc, t.sp, t.ime, t.units)) = some (0xC003#16, 0xE000#16, true, some 4) := by decide
/-- V93: RST. -/
theorem test_v93 : after { start [0xFF#8] with sp := 0xE000#16 } (fun t => (t.sp, t.readWord 0xDFFE#16, t.pc, t.units)) =
    some (0xDFFE#16, 0xC001#16, 0x0038#16, some 4) := by decide
/-- V95 and V99: the I/O page reaches HRAM. -/
theorem test_v95 : after { start [0xE0#8, 0x80#8] with a := 0x5A#8 } (fun t => (t.readByte 0xFF80#16, t.units)) =
    some (0x5A#8, some 3) := by decide
theorem test_v99 : after (poke { start [0xF2#8] with c := 0xFE#8 } 0xFFFE 0x77#8) (fun t => (t.a, t.units)) =
    some (0x77#8, some 2) := by decide
/-- V97: the overlay unmapped through the I/O page. -/
theorem test_v97 : after { start [0xE2#8] with a := 0x01#8, c := 0x50#8 } (fun t => (t.overlayMapped, t.units)) =
    some (false, some 2) := by decide
/-- V101: the prefix step. -/
theorem test_v101 : after (start [0xCB#8]) (fun t => (t.pc, t.cbLatch, t.units)) = some (0xC001#16, true, some 1) := by
  decide
/-- V103, V104, V106, V107, V108, V109, V111: one of each rotate and shift, the second step. -/
theorem test_v103 : after { prefixed 0x09#8 with c := 0x01#8 } (fun t => (t.c, t.f)) = some (0x80#8, 0x10#8) := by
  decide
theorem test_v104 : after { prefixed 0x12#8 with d := 0x80#8 } (fun t => (t.d, t.f)) = some (0x00#8, 0x90#8) := by
  decide
theorem test_v106 : after { prefixed 0x1F#8 with f := 0x10#8 } (fun t => (t.a, t.f)) = some (0x80#8, 0x00#8) := by
  decide
theorem test_v107 : after { prefixed 0x24#8 with h := 0xFF#8 } (fun t => (t.h, t.f)) = some (0xFE#8, 0x10#8) := by
  decide
theorem test_v108 : after { prefixed 0x2D#8 with l := 0x81#8 } (fun t => (t.l, t.f)) = some (0xC0#8, 0x10#8) := by
  decide
theorem test_v109 : after { prefixed 0x37#8 with a := 0xF0#8, f := 0x10#8 } (fun t => (t.a, t.f)) =
    some (0x0F#8, 0x00#8) := by decide
/-- V112: SRL on memory. -/
theorem test_v112 : after (poke { prefixed 0x3E#8 with h := 0xC1#8 } 0xC100 0x80#8)
    (fun t => (t.readByte 0xC100#16, t.f, t.pc, t.cbLatch, t.units)) =
    some (0x40#8, 0x00#8, 0xC002#16, false, some 3) := by decide
/-- V113 and V115: BIT keeps C and writes nothing. -/
theorem test_v113 : after { prefixed 0x7C#8 with h := 0x80#8, f := 0x10#8 } (fun t => (t.h, t.f)) =
    some (0x80#8, 0x30#8) := by decide
theorem test_v115 : after (poke { prefixed 0x46#8 with h := 0xC1#8 } 0xC100 0x01#8)
    (fun t => (t.readByte 0xC100#16, t.f, t.units)) = some (0x01#8, 0x20#8, some 2) := by decide
/-- V116 and V117: RES and SET change no flag. -/
theorem test_v116 : after (poke { prefixed 0x86#8 with h := 0xC1#8, f := 0xF0#8 } 0xC100 0xFF#8)
    (fun t => (t.readByte 0xC100#16, t.f, t.units)) = some (0xFE#8, 0xF0#8, some 3) := by decide
theorem test_v117 : after (prefixed 0xFF#8) (fun t => (t.a, t.f)) = some (0x80#8, 0x00#8) := by decide
/-- V122, V123 and V124: HALT, a Halted step, STOP. -/
theorem test_v122 : after (start [0x76#8]) (fun t => (t.pc, t.execState, t.units)) =
    some (0xC001#16, .halted, some 1) := by decide
theorem test_v123 : after { start [0x76#8, 0x3C#8] with pc := 0xC001#16, execState := .halted }
    (fun t => (t.a, t.pc, t.units)) = some (0x00#8, 0xC001#16, some 1) := by decide
theorem test_v124 : after (start [0x10#8, 0xFF#8]) (fun t => (t.pc, t.execState, t.units)) =
    some (0xC002#16, .halted, some 1) := by decide
/-- V125: the record of a decode failure, and the fault every later step answers. -/
theorem test_v125 : after { start [0xD3#8] with a := 0x12#8 } (fun t => (t.fault, t.units, t.video)) =
    some (some
      { space := .primary, byte := 0xD3#8, a := 0x12#8, f := 0x00#8, b := 0x00#8, c := 0x00#8, d := 0x00#8,
        e := 0x00#8, h := 0x00#8, l := 0x00#8, sp := 0xFFFE#16, pc := 0xC001#16, execState := .running, latch := false },
      none, { mode := .oamScan, line := 0, acc := 0 }) := by decide
/-- V127 and V128: DI and EI. -/
theorem test_v127 : after { start [0xF3#8] with ime := true } (fun t => (t.ime, t.pc)) = some (false, 0xC001#16) := by
  decide
theorem test_v128 : after (start [0xFB#8]) (fun t => (t.ime, t.units)) = some (true, some 1) := by decide
/-- V129 and V131: a cycle-unit of one clock period. -/
theorem test_v129 : after { start [0x00#8] with params := { Params.standard with tPerUnit := .one } } State.units =
    some (some 4) := by decide
theorem test_v131 :
    after { start [0x00#8] with execState := .halted, params := { Params.standard with tPerUnit := .one } } State.units =
    some (some 1) := by decide
/-- V134: a word read across 0xFFFF. -/
theorem test_v134 :
    State.readWord { start [] with params := { Params.standard with bootRom := [(0, 0x31#8)] } } 0xFFFF#16 =
      0x3100#16 := by decide
/-- V138 and E5: the bounds of HRAM, and a word whose high byte is discarded. -/
theorem test_v138 : (((start []).writeByte 0xFF80#16 0x01#8).writeByte 0xFFFE#16 0x02#8).mem =
    [(0xFF80, 0x01#8), (0xFFFE, 0x02#8)] := by decide
theorem test_e5 : ((start []).writeWord 0xFFFE#16 0xABCD#16).readWord 0xFFFE#16 = 0x00CD#16 := by decide
/-- V148 and V154: one call across four boundaries, and one frame. -/
theorem test_v148 : ((start []).videoStep 200).video = { mode := .hblank, line := 1, acc := 92 } := by decide
theorem test_v154 : ((start []).videoStep 17556).video = { mode := .oamScan, line := 0, acc := 0 } := by decide +kernel
/-- E10: the first step from power-on executes the boot image's first instruction. -/
theorem test_e10 :
    after (State.powerOn { Params.standard with bootRom := [(0, 0x31#8), (1, 0xFE#8), (2, 0xFF#8)] } [])
      (fun t => (t.sp, t.pc, t.units)) = some (0xFFFE#16, 0x0003#16, some 3) := by decide

/-! ## Witnesses: a concrete case that meets the hypotheses of each statement that has some -/

/-- A state whose one byte of code is LD (HL),A with HL in the echo. -/
def storing : State := { start [0x77#8] with a := 0x5A#8, h := 0xFD#8, l := 0xFF#8 }
/-- A state of a machine that has halted. -/
def halted : State := { start [0x3C#8] with execState := .halted }
/-- A state that is about to fail its decode, in the primary space. -/
def failing : State := start [0xFD#8]
/-- A state that is about to fail its decode in the secondary space, where the coverage leaves SWAP A out. -/
def failingSecondary : State := { prefixed 0x37#8 with params := partialCoverage }
/-- A state with F all ones above its low nibble, whose conditions Z and C hold. -/
def flagged : State := { start [] with f := 0xF0#8 }

theorem witness_DecodedBytesAreTheEncoding :
    decode .primary [0x21#8, 0x06#8, 0xC0#8, 0x76#8] = .ok (.ldHlD16 0xC006#16, [0x76#8]) ∧
    decode .secondary [0x7C#8] = .ok (.bit7H, []) := ⟨rfl, rfl⟩
theorem witness_LengthFollowsFromFirstByte :
    Instr.space (.ldHlD16 0x0000#16) = .primary ∧ Instr.space .ldAA = .primary ∧ Instr.space (.jrE8 0x80#8) = .primary ∧
    Instr.space .bit7H = .secondary ∧ entry .primary 0xDB#8 = none := ⟨rfl, rfl, rfl, rfl, rfl⟩
theorem witness_StepRunsDecodedInstruction_three_bytes :
    let s := start [0xFA#8, 0x00#8, 0xE1#8]
    let i : Instr := .ldAAtA16 0xE100#16
    s.fault = none ∧ s.execState = .running ∧ s.decodeSpace = i.space ∧ i.wf s.params = true ∧
      ∀ k : Fin i.byteLength, s.readByte (s.pc + word k.val) = (encode i)[k.val]'k.isLt := by decide
theorem witness_StepRunsDecodedInstruction_secondary :
    let s := prefixed 0xFF#8
    let i : Instr := .set7A
    s.fault = none ∧ s.execState = .running ∧ s.decodeSpace = i.space ∧ i.wf s.params = true ∧
      ∀ k : Fin i.byteLength, s.readByte (s.pc + word k.val) = (encode i)[k.val]'k.isLt := by decide
theorem witness_HaltedStepOnlyReturnsOne : halted.fault = none ∧ halted.execState = .halted := ⟨rfl, rfl⟩
theorem witness_HaltedMachineStaysIdle : halted.fault = none ∧ halted.execState = .halted := ⟨rfl, rfl⟩
theorem witness_DecodeFailureIsRecorded :
    failing.fault = none ∧ failing.execState = .running ∧
      (lookup failing.params failing.decodeSpace (failing.readByte failing.pc)).isNone = true := by decide
theorem witness_DecodeFailureIsRecorded_secondary :
    failingSecondary.fault = none ∧ failingSecondary.execState = .running ∧ failingSecondary.cbLatch = true ∧
      (lookup failingSecondary.params failingSecondary.decodeSpace
        (failingSecondary.readByte failingSecondary.pc)).isNone = true := by decide
theorem witness_FaultIsTerminalAndOnlyFromDecode :
    (∃ t, step failing = .next t ∧ t.fault ≠ none ∧ step t = .fault (.decodeFailure (t.fault.getD
      { space := .primary, byte := 0, a := 0, f := 0, b := 0, c := 0, d := 0, e := 0, h := 0, l := 0, sp := 0, pc := 0,
        execState := .running, latch := false }))) ∧
    (∃ t, step storing = .next t ∧ t.fault = none) :=
  ⟨⟨_, rfl, Option.some_ne_none _, rfl⟩, ⟨_, rfl, rfl⟩⟩
theorem witness_InvariantHoldsAtPowerOn :
    let ram : Memory := [(0x8000, 0x5C#8), (0xDFFF, 0x01#8), (0xFFFE, 0x77#8)]
    Memory.wf ram ∧ ∀ c ∈ ram, isCell c.1 = true := by decide
theorem witness_EveryStepKeepsTheInvariant : storing.Inv ∧ ∃ t, step storing = .next t :=
  ⟨⟨by decide, by decide +kernel, by decide +kernel, by decide +kernel⟩, ⟨_, rfl⟩⟩
theorem witness_RegistersNotNamedAreUnchanged :
    (∃ t, exec .ldAtHlA storing = .next t) ∧ Reg.a ∉ writesRegs (Instr.form .ldAtHlA) := ⟨⟨_, rfl⟩, by decide⟩
theorem witness_FlagsChangeOnlyByTheirWriters :
    (∃ t, exec .incB flagged = .next t) ∧ writesC (Instr.form .incB) = false ∧ flagged.f &&& 0x0F#8 = 0 ∧
    writesZ (Instr.form .scf) = false ∧ writesN (Instr.form .nop) = false ∧ writesH (Instr.form .popBc) = false :=
  ⟨⟨_, rfl⟩, rfl, by decide, rfl, rfl, rfl⟩

/-- The four clauses of the write, each at a boundary: the last echo byte and its cell; the byte after the echo; the last
overlay byte with and without the unmapping write. -/
theorem witness_WriteByteChangesOneByte_same :
    Memory.wf storing.mem ∧ sameByte 0xDDFF#16 0xFDFF#16 ∧ sameByte 0xE000#16 0xC000#16 := by
  refine ⟨by decide, ?_, ?_⟩ <;> (unfold sameByte backed inEcho; decide)
theorem witness_WriteByteChangesOneByte_other : ¬ sameByte 0xDE00#16 0xFE00#16 ∧ 0x00FF < (0xFE00#16).toNat := by
  refine ⟨?_, by decide⟩
  unfold sameByte backed inEcho
  decide
theorem witness_WriteByteChangesOneByte_overlay :
    (0x00FF#16).toNat ≤ 0x00FF ∧ ¬ ((0xFF50#16 : Word) = 0xFF50#16 ∧ (0x00#8 : Byte) ≠ 0) := by decide
theorem witness_WriteByteChangesOneByte_unmapping :
    (0x0000#16).toNat ≤ 0x00FF ∧ (0xFF50#16 : Word) = 0xFF50#16 ∧ (0x80#8 : Byte) ≠ 0 := by decide
theorem witness_EchoAliasing :
    Memory.wf storing.mem ∧ 0xE000 ≤ (0xE000#16).toNat ∧ (0xE000#16).toNat ≤ 0xFDFF ∧
      0xE000 ≤ (0xFDFF#16).toNat ∧ (0xFDFF#16).toNat ≤ 0xFDFF := by decide
theorem witness_WordsAreLittleEndian :
    Memory.wf storing.mem ∧ backed 0xFFFD#16 ∧ backed (word ((0xFFFD#16).toNat + 1)) ∧
      backed 0xDFFF#16 ∧ backed (word ((0xDFFF#16).toNat + 1)) := by
  refine ⟨by decide, ?_, ?_, ?_, ?_⟩ <;> (unfold backed inEcho; decide)
theorem witness_OverlayIsNeverMappedAgain :
    (∃ t, step { storing with overlayMapped := false } = .next t ∧ t.overlayMapped = false) ∧
    (∃ t, exec (.ldhAtA8A 0x50#8) storing = .next t ∧ t.overlayMapped ≠ storing.overlayMapped) :=
  ⟨⟨_, rfl, rfl⟩, ⟨_, rfl, by decide⟩⟩
theorem witness_BytesNotStoredToAreUnchanged :
    (∃ t, exec .ldAtHlA storing = .next t) ∧ (∀ a ∈ storedTo (Instr.form .ldAtHlA) storing, ¬ sameByte a 0xDDFE#16) ∧
      (∀ a ∈ storedTo (Instr.form .ldAtHlA) storing, ¬ sameByte a 0x00FF#16) ∧
      0xFF50#16 ∉ storedTo (Instr.form .ldAtHlA) storing := by
  have h : storedTo (Instr.form .ldAtHlA) storing = [0xFDFF#16] := by decide
  rw [h]
  refine ⟨⟨_, rfl⟩, ?_, ?_, by decide⟩ <;>
  · intro a ha
    obtain rfl := List.mem_singleton.1 ha
    unfold sameByte backed inEcho
    decide
theorem witness_LoadBetweenRegistersAndMemory :
    ¬ (R8.b = .atHl ∧ R8.c = .atHl) ∧ R8.b ≠ .atHl ∧ R8.c ≠ .atHl ∧ ¬ (R8.a = .atHl ∧ R8.atHl = .atHl) ∧
      ¬ (R8.atHl = .atHl ∧ R8.l = .atHl) := by decide
theorem witness_LoadImmediateByte : R8.a ≠ .atHl ∧ R8.atHl = .atHl := by decide
theorem witness_DaaCorrectsBcdArithmetic :
    let s := { start [] with a := 0x99#8 }
    99 < 100 ∧ s.a = bcd 99 ∧
      (∃ t u, exec (.addAD8 (bcd 99)) s = .next t ∧ exec .daa t = .next u) ∧
      (∃ t u, exec (.subAD8 (bcd 0)) s = .next t ∧ exec .daa t = .next u) :=
  ⟨by decide, by decide, ⟨_, _, rfl, rfl⟩, ⟨_, _, rfl, rfl⟩⟩
/-- Each condition both ways, for the conditional jumps, calls and returns. -/
theorem witness_RelativeJumps :
    [Cc.nz, .z, .nc, .c].map flagged.cond = [false, true, false, true] ∧
    [Cc.nz, .z, .nc, .c].map (start []).cond = [true, false, true, false] := by decide
theorem witness_AbsoluteJumps : flagged.cond .c = true ∧ flagged.cond .nc = false := by decide
theorem witness_CallsPushTheReturnAddress : flagged.cond .z = true ∧ flagged.cond .nz = false := by decide
theorem witness_ReturnsPopThePc : (start []).cond .nc = true ∧ (start []).cond .c = false := by decide
theorem witness_PrefixedInstructionTakesTwoSteps :
    let s := start [0xCB#8, 0x37#8]
    s.fault = none ∧ s.execState = .running ∧ s.cbLatch = false ∧ s.readByte s.pc = 0xCB#8 ∧
      s.readByte (s.pc + 1) = 0x37#8 ∧ s.params.mapped .primary 0xCB#8 = true ∧
      s.params.mapped .secondary 0x37#8 = true := by decide
theorem witness_StackRoundTrips :
    let s := { start [] with sp := 0xE000#16, a := 0x12#8, f := 0xB0#8 }
    Memory.wf s.mem ∧ backed (s.sp - 1) ∧ backed (s.sp - 2) ∧ s.f &&& 0x0F#8 = 0 ∧
      (∃ t u, exec (Instr.ofPush .af) s = .next t ∧ exec (Instr.ofPop .af) t = .next u) ∧
      (∃ t u, exec (.callA16 0xC100#16) s = .next t ∧ exec .ret t = .next u) := by
  refine ⟨by decide, ?_, ?_, by decide, ⟨_, _, rfl, rfl⟩, ⟨_, _, rfl, rfl⟩⟩ <;> (unfold backed inEcho; decide)
theorem witness_VideoStepAdvancesTheFramePosition :
    Video.ok { mode := .vblank, line := 153, acc := 455 } = true ∧ Video.ok { mode := .hblank, line := 143, acc := 203 } =
      true := by decide
/-- Below, at, and above the end of each mode. -/
theorem witness_VideoLoopUnrolls :
    79 + 0 < VideoMode.duration .oamScan ∧ VideoMode.duration .oamScan ≤ 79 + 1 ∧
      VideoMode.duration .drawing ≤ 168 + 4 ∧ VideoMode.duration .hblank ≤ 203 + 4 ∧
      VideoMode.duration .vblank ≤ 455 + 24 := by decide
theorem witness_FramebufferCopyIsExact :
    23039 < (start []).copyFramebuffer.length ∧ ∃ t, exec .nop (start []) = .next t := by
  refine ⟨?_, ⟨_, rfl⟩⟩
  simp [State.copyFramebuffer, start, State.powerOn, Params.standard]
theorem witness_CpuCannotSeeVideoOrTiming :
    let s := start [0x3C#8]
    let u := { s with
      video := { mode := .vblank, line := 150, acc := 7 }
      fb := { draw := 9 }
      units := some 3
      params := { s.params with tPerUnit := .one, fbWidth := 1, fbHeight := 2 } }
    cpuView s = cpuView u ∧ s ≠ u := ⟨rfl, by decide⟩
theorem witness_ImeIsNeverRead :
    withoutIme storing = withoutIme { storing with ime := true } ∧ storing ≠ { storing with ime := true } :=
  ⟨rfl, by decide⟩

end Sys2Proof.Tests
end

section
/-! SUPPORT. What F holds after a write, written with the statement vocabulary, and how masking F acts on AF. -/

namespace Sys2Proof.Machine

open Sys2Proof.Statement

/-- Writing the four flags leaves the byte the statements call `flagByte`. -/
theorem State.setFlags_f_eq_flagByte (s : State) (z n h c : Bool) : (s.setFlags z n h c).f = flagByte z n h c := by
  rw [State.setFlags_f, packFlags_mask, packFlags_eq, flagByte, byte]

/-- Masking with 0xF0 rounds a byte down to a multiple of 16 (10_state.md R23). -/
theorem and_highNibble_eq_byte (v : Byte) : v &&& 0xF0#8 = byte (v.toNat / 16 * 16) := by
  revert v; decide +kernel

/-- Clearing bits 3..0 of a word clears them in its low byte and leaves its high byte. -/
theorem join_and_0xFFF0 (hi lo : Byte) : join hi lo &&& 0xFFF0#16 = join hi (lo &&& 0xF0#8) := by
  have hmask : 0xFFF0#16 = BitVec.allOnes 8 ++ 0xF0#8 := by decide
  rw [join, join, hmask, BitVec.and_append, BitVec.and_allOnes]

/-! ## What a pair reads after it is written (10_state.md R21) -/

@[simp] theorem State.setBc_bc (s : State) (v : Word) : (s.setBc v).bc = v := join_hi_lo v
@[simp] theorem State.setDe_de (s : State) (v : Word) : (s.setDe v).de = v := join_hi_lo v
@[simp] theorem State.setHl_hl (s : State) (v : Word) : (s.setHl v).hl = v := join_hi_lo v

/-- AF reads back with bits 3..0 clear, since its low byte is F. -/
@[simp] theorem State.setAf_af (s : State) (v : Word) : (s.setAf v).af = v &&& 0xFFF0#16 := by
  rw [State.af, State.setAf_a, State.setAf_f, ← join_and_0xFFF0, join_hi_lo]

end Sys2Proof.Machine
end

section
/-! The obligations about registers and flags of 10_state.md section 1. -/

namespace Sys2Proof.Machine

/-- Settles O16: each flag reads its bit of F by `bitOf_eq`, and a write to F goes through the mask 0xF0. -/
theorem flagsStandInTheHighNibble : Obligations.FlagsStandInTheHighNibble := by
  intro s z n h c v
  refine ⟨s.setFlags_f_eq_flagByte z n h c, s.setFlags_flagZ z n h c, s.setFlags_flagN z n h c,
    s.setFlags_flagH z n h c, s.setFlags_flagC z n h c, ?z, ?n, ?h, ?c, ?write⟩
  case z => exact bitOf_eq s.f 7
  case n => exact bitOf_eq s.f 6
  case h => exact bitOf_eq s.f 5
  case c => exact bitOf_eq s.f 4
  case write => rw [State.writeF_f, and_highNibble_eq_byte]

/-- Settles O17: each pair is the `join` of its registers, so it reads by `join_toNat` and reads back what was written
by `join_hi_lo`. -/
theorem pairsAreViews : Obligations.PairsAreViews := by
  intro s v
  exact ⟨join_toNat s.b s.c, join_toNat s.d s.e, join_toNat s.h s.l, join_toNat s.a s.f,
    s.setBc_bc v, s.setDe_de v, s.setHl_hl v, s.setAf_af v⟩

end Sys2Proof.Machine
end

section
/-! The obligation about what every address reads (20_memory.md section 2). -/

namespace Sys2Proof.Machine

/-- Settles O20: the overlay range by `State.readByte_eq`; above it the ranges of the backing cells (`storageCell_eq`)
are the ranges of the map, and in each the cell names the byte the map gives. -/
theorem readByteFollowsTheMap : Obligations.ReadByteFollowsTheMap := by
  intro s a
  rw [State.readByte_eq]
  by_cases hoverlay : a.toNat ≤ 0xFF
  · rw [if_pos hoverlay, if_pos hoverlay]
  · rw [if_neg hoverlay, if_neg hoverlay, storageCell_eq]
    split_ifs <;> rfl

end Sys2Proof.Machine
end

section
/-! SUPPORT. The cost of an execution, joined to the cycle table (30_encoding.md R102, R104). -/

namespace Sys2Proof

open Sys2Proof.Machine Sys2Proof.Statement

/-- The instruction of an instruction's form is that instruction. -/
theorem Instr.instr_form (i : Instr) : i.form.instr = i := by cases i <;> rfl

/-- The cost pair of every row is the cycle table's (R104). -/
theorem Instr.row_costs (i : Instr) : (i.row.base, i.row.alt) = costT i.form := by cases i <;> rfl

/-- Every cost is a whole number of machine cycles of 4 clock periods. -/
theorem costT_mod_four (f : Form) : (costT f).1 % 4 = 0 ∧ (costT f).2 % 4 = 0 := by
  cases f with
  | ld y z => cases y <;> cases z <;> simp [costT]
  | ldImm y n => cases y <;> simp [costT]
  | inc y => cases y <;> simp [costT]
  | dec y => cases y <;> simp [costT]
  | alu op z => cases z <;> simp [costT]
  | rot op z => cases z <;> simp [costT]
  | bit y z => cases z <;> simp [costT]
  | res y z => cases z <;> simp [costT]
  | set y z => cases z <;> simp [costT]
  | _ => simp [costT]

/-- An execution costs the row's alternate cost where its transfer is not taken, else the base cost (R102). -/
theorem Form.cost_eq (f : Form) (s : State) :
    f.cost s = if notTaken f s then f.instr.row.alt else f.instr.row.base := by
  cases f with
  | jrCc k e => cases h : s.cond k <;> simp [Form.cost, notTaken, h]
  | jpCc k a => cases h : s.cond k <;> simp [Form.cost, notTaken, h]
  | callCc k a => cases h : s.cond k <;> simp [Form.cost, notTaken, h]
  | retCc k => cases h : s.cond k <;> simp [Form.cost, notTaken, h]
  | _ => rfl

end Sys2Proof
end

section
/-! The obligation about completion and cost (30_encoding.md section 7). -/

namespace Sys2Proof.Machine

open Sys2Proof.Statement

/-- Settles O26: `exec_form` gives the next state and a count over the form's cost, which is one of the row's two costs
by `Form.cost_eq`; no form changes the parameters, so T_PER_UNIT is the one the execution began with. -/
theorem everyInstructionCompletesAtItsCost : Obligations.EveryInstructionCompletesAtItsCost := by
  intro i s
  have hrow := i.row_costs
  have hexec := exec_form i.form s
  have hcost := i.form.cost_eq s
  rw [i.instr_form] at hexec hcost
  obtain ⟨hbase, halt⟩ := costT_mod_four i.form
  obtain ⟨-, hparams, -, -⟩ := i.form.effect_frame s
  refine ⟨hrow, hbase, halt, _, hexec, ?units⟩
  case units => rw [hcost, hparams, ← hrow]

end Sys2Proof.Machine
end

section
/-! SUPPORT. A bit of a byte, tested set and tested clear, over the natural numbers. -/

namespace Sys2Proof

theorem bitOf_iff (v : Byte) (i : Nat) : bitOf v i = true ↔ v.toNat / 2 ^ i % 2 = 1 := by
  rw [bitOf_eq, decide_eq_true_iff]

theorem not_bitOf_iff (v : Byte) (i : Nat) : (!bitOf v i) = true ↔ v.toNat / 2 ^ i % 2 = 0 := by
  rw [Bool.not_eq_true', ← Bool.not_eq_true, bitOf_iff]
  exact Nat.mod_two_ne_one

end Sys2Proof
end

section
/-! SUPPORT. Where the opcode table has no entry (30_encoding.md R94, R96), and what a step does there. -/

namespace Sys2Proof

open Sys2Proof.Machine

/-- The illegal bytes of R94, found among all 256 of the primary space. -/
theorem entry_primary_eq_none_iff (b : Byte) : entry .primary b = none ↔
    b ∈ [0xD3#8, 0xDB#8, 0xDD#8, 0xE3#8, 0xE4#8, 0xEB#8, 0xEC#8, 0xED#8, 0xF4#8, 0xFC#8, 0xFD#8] := by
  rw [← Option.isNone_iff_eq_none]
  revert b; decide +kernel

/-- Every secondary byte is an instruction (R93). -/
theorem entry_secondary_ne_none (b : Byte) : entry .secondary b ≠ none := Option.some_ne_none _

/-- A byte is absent where the table has no entry or the machine does not map it (R96). -/
theorem lookup_eq_none_iff (p : Params) (sp : Space) (b : Byte) :
    lookup p sp b = none ↔ entry sp b = none ∨ p.mapped sp b = false := by
  unfold lookup
  cases p.mapped sp b with
  | true => simp
  | false => simp

/-- A Running step whose byte is absent fails, with nothing executed (40_engine.md R115). -/
theorem Machine.State.beginStep_of_lookup_eq_none {s : State} (hrunning : s.execState = .running)
    (habsent : lookup s.params s.decodeSpace s.fetchedByte = none) :
    s.beginStep = .failed (s.afterOpcode.takeDecodeFailure s.decodeSpace s.fetchedByte) := by
  unfold State.beginStep
  rw [hrunning, habsent]

end Sys2Proof
end

section
/-! The obligations about the operand tables and the illegal bytes (30_encoding.md sections 2 and 5). -/

namespace Sys2Proof.Machine

/-- Settles O1: an index names its row of a table by definition; a condition tests its bit of F by `bitOf_iff` or
`not_bitOf_iff`. -/
theorem operandTablesReadAndWrite : Obligations.OperandTablesReadAndWrite := by
  intro s v w
  refine ⟨rfl, rfl, rfl, rfl, rfl, rfl, ?nz, ?z, ?nc, ?c⟩
  case nz => exact not_bitOf_iff s.f 7
  case z => exact bitOf_iff s.f 7
  case nc => exact not_bitOf_iff s.f 4
  case c => exact bitOf_iff s.f 4

/-- Settles O5: the table has no entry for the eleven bytes alone, and a byte that `lookup` finds absent fails the step
that fetched it. -/
theorem illegalBytesFailToDecode : Obligations.IllegalBytesFailToDecode :=
  ⟨entry_primary_eq_none_iff, entry_secondary_ne_none, lookup_eq_none_iff,
    fun _ hrunning habsent => State.beginStep_of_lookup_eq_none hrunning habsent⟩

end Sys2Proof.Machine
end

section
/-! The obligation about the Halted step (40_engine.md R111, 49_control.md R261). -/

namespace Sys2Proof.Machine

/-- A Halted step is done before any fetch, and its count does not depend on T_PER_UNIT (40_engine.md R111). -/
theorem State.beginStep_of_halted {s : State} (hhalted : s.execState = .halted) :
    s.beginStep = .idle { s with units := some 1 } := by
  unfold State.beginStep
  rw [hhalted]

/-- Settles O9: HALT's own step by `exec_form`; `State.beginStep_of_halted` for the step after it, and again for the
state that step leaves, which is Halted still. -/
theorem haltedStepOnlyReturnsOne : Obligations.HaltedStepOnlyReturnsOne := by
  intro s
  refine ⟨rfl, exec_form .halt s, fun hhalted => ⟨?first, ?later⟩⟩
  case first => exact State.beginStep_of_halted hhalted
  case later => exact State.beginStep_of_halted (s := { s with units := some 1 }) hhalted

end Sys2Proof.Machine
end

section
/-! SUPPORT. What executing a form answers, with its cost read from the cycle table, and arithmetic on words, bytes and F
written with the statement vocabulary. -/

namespace Sys2Proof

open Sys2Proof.Machine Sys2Proof.Statement

/-- The cost pair of a form's row is the cycle table's (R104); HALT costs the same under both of its names. -/
theorem Form.instr_row_costs (f : Form) : (f.instr.row.base, f.instr.row.alt) = costT f := by
  rw [Instr.row_costs, Form.form_instr]
  split
  case isTrue hhalt => rw [hhalt]; rfl
  case isFalse => rfl

/-- Executing the instruction of a form answers the form's effect, at the cost the cycle table gives (R102, R104). -/
theorem exec_form_answers (f : Form) (s : State) :
    answers (exec f.instr s) (f.effect s) (if notTaken f s then (costT f).2 else (costT f).1) := by
  rw [← f.instr_row_costs, ← f.cost_eq]
  exact exec_form f s

/-! ## Words and bytes given as numbers -/

theorem add_one_eq_word (w : Word) : w + 1 = word (w.toNat + 1) := by
  apply BitVec.eq_of_toNat_eq
  simp [word]

/-- Stepping down is adding 65535, modulo 65536. -/
theorem sub_one_eq_word (w : Word) : w - 1 = word (w.toNat + 65535) := by
  apply BitVec.eq_of_toNat_eq
  simp [word, BitVec.toNat_sub, Nat.add_comm]

theorem hi8_eq_byte (w : Word) : hi8 w = byte (w.toNat / 256) := by
  rw [← hi8_toNat, byte, BitVec.ofNat_toNat, BitVec.setWidth_eq]

theorem lo8_eq_byte (w : Word) : lo8 w = byte w.toNat := by
  apply BitVec.eq_of_toNat_eq
  rw [lo8_toNat]
  simp [byte]

end Sys2Proof

namespace Sys2Proof.Machine

open Sys2Proof.Statement

/-- Writing the four flags changes F and nothing else. -/
theorem State.setFlags_eq (s : State) (z n h c : Bool) : s.setFlags z n h c = { s with f := flagByte z n h c } := by
  rw [← s.setFlags_f_eq_flagByte]
  rfl

/-- The carries of a sum of SP's low byte with a byte, from SP as a number (R150, R179). -/
theorem carry4_lo8 (w : Word) (e : Byte) :
    carry4 (lo8 w) e false = decide (w.toNat % 16 + e.toNat % 16 > 15) := by
  rw [carry4, lo8_toNat, Nat.mod_mod_of_dvd _ (by decide : 16 ∣ 256)]
  rfl

theorem carry8_lo8 (w : Word) (e : Byte) :
    carry8 (lo8 w) e false = decide (w.toNat % 256 + e.toNat > 255) := by
  rw [carry8, lo8_toNat]
  rfl

end Sys2Proof.Machine
end

section
/-! The obligations about the 8-bit loads (41_load.md R131–R145). -/

namespace Sys2Proof.Machine

open Sys2Proof.Statement

/-- The opcode of a load holds the indexes of its two operands; the place of `LD (HL),(HL)` is HALT's (R90). -/
theorem encode_ofLd (y z : R8) : encode (Instr.ofLd y z) = [byte (0x40 + 8 * r8Index y + r8Index z)] := by
  cases y <;> cases z <;> rfl

theorem encode_ofLdImm (y : R8) (n : Byte) : encode (Instr.ofLdImm y n) = [byte (8 * r8Index y + 6), n] := by
  cases y <;> rfl

/-- A load between two operands that are not both `(HL)` moves the byte, and costs 4 more clock periods when one of them
is `(HL)`. -/
theorem exec_ofLd_answers (s : State) {y z : R8} (hnotHalt : ¬ (y = .atHl ∧ z = .atHl)) :
    answers (exec (Instr.ofLd y z) s) (s.move8 y z) (if y = .atHl ∨ z = .atHl then 8 else 4) := by
  have hexec : answers (exec (Instr.ofLd y z) s) ((Form.ld y z).effect s) (costT (.ld y z)).1 :=
    exec_form_answers (.ld y z) s
  have heffect : (Form.ld y z).effect s = s.move8 y z := if_neg hnotHalt
  have hcost : (costT (.ld y z)).1 = if y = .atHl ∨ z = .atHl then 8 else 4 := by
    rw [costT, if_neg hnotHalt]
    split <;> rfl
  rwa [heffect, hcost] at hexec

/-- Settles O27: each clause is `exec_ofLd_answers`, where the operand `(HL)` is the byte at HL. -/
theorem loadBetweenRegistersAndMemory : Obligations.LoadBetweenRegistersAndMemory := by
  intro s y z hnotHalt
  have hexec := exec_ofLd_answers s hnotHalt
  refine ⟨encode_ofLd y z, fun hy hz => ?registers, fun hz => ?fromMemory, fun hy => ?toMemory⟩
  case registers => rwa [if_neg (not_or.2 ⟨hy, hz⟩)] at hexec
  case fromMemory => subst hz; rwa [if_pos (.inr rfl)] at hexec
  case toMemory => subst hy; rwa [if_pos (.inl rfl)] at hexec

/-- Settles O28: the form writes the operand; only its cost depends on whether the operand is `(HL)`. -/
theorem loadImmediateByte : Obligations.LoadImmediateByte := by
  intro s y n
  have hexec := exec_form_answers (.ldImm y n) s
  refine ⟨encode_ofLdImm y n, fun hy => ?register, fun hy => ?memory⟩
  case register =>
    have hcost : costT (.ldImm y n) = (8, 8) := if_neg hy
    rwa [hcost] at hexec
  case memory => subst hy; exact hexec

/-- Settles O29: the four forms store or load A at the address of the pair. -/
theorem loadThroughBcAndDe : Obligations.LoadThroughBcAndDe := fun s =>
  ⟨rfl, exec_form_answers .ldAtBcA s, rfl, exec_form_answers .ldAtDeA s,
    rfl, exec_form_answers .ldAAtBc s, rfl, exec_form_answers .ldAAtDe s⟩

/-- Settles O30: neither access changes HL, so the step after it starts from the old HL; a step as a u16 is
`add_one_eq_word` or `sub_one_eq_word`. -/
theorem loadWithHlStepped : Obligations.LoadWithHlStepped := by
  intro s
  dsimp only
  rw [← add_one_eq_word, ← sub_one_eq_word]
  exact ⟨rfl, exec_form_answers .ldAtHliA s, rfl, exec_form_answers .ldAtHldA s,
    rfl, exec_form_answers .ldAAtHli s, rfl, exec_form_answers .ldAAtHld s⟩

/-- Settles O31: the two forms store or load A at the address of the instruction. -/
theorem loadAtDirectAddress : Obligations.LoadAtDirectAddress := fun s a =>
  ⟨rfl, exec_form_answers (.ldAtA16A a) s, rfl, exec_form_answers (.ldAAtA16 a) s⟩

end Sys2Proof.Machine
end

section
/-! The obligations about the 16-bit loads (41_load.md R150–R153). -/

namespace Sys2Proof.Machine

open Sys2Proof.Statement

theorem encode_ofLdRp (p : Rp) (v : Word) :
    encode (Instr.ofLdRp p v) = [byte (16 * rpIndex p + 1), lo8 v, hi8 v] := by
  cases p <;> rfl

/-- What `LD HL,SP+e8` leaves, over numbers: the sum is signed, the carries are of the unsigned low bytes (R150). -/
theorem State.loadHlSp_eq (s : State) (e : Byte) :
    s.loadHlSp e =
      { s.setHl (BitVec.ofInt 16 (s.sp.toNat + e.toInt)) with
        f := flagByte false false (decide (s.sp.toNat % 16 + e.toNat % 16 > 15))
          (decide (s.sp.toNat % 256 + e.toNat > 255)) } := by
  rw [State.loadHlSp, State.setFlags_eq, add_sext16, carry4_lo8, carry8_lo8]

/-- Settles O32: the form's effect, with the sum and the carries over numbers (`State.loadHlSp_eq`). -/
theorem loadHlFromSpPlusDisplacement : Obligations.LoadHlFromSpPlusDisplacement := by
  intro s e
  have hexec := exec_form_answers (.ldHlSpE8 e) s
  rw [show (Form.ldHlSpE8 e).effect s = s.loadHlSp e from rfl, State.loadHlSp_eq] at hexec
  exact ⟨rfl, hexec⟩

/-- Settles O33: the forms write the pair with the immediate, and SP with HL. -/
theorem loadPairImmediateAndSpFromHl : Obligations.LoadPairImmediateAndSpFromHl := fun s p v =>
  ⟨encode_ofLdRp p v, exec_form_answers (.ldRp p v) s, rfl, exec_form_answers .ldSpHl s⟩

/-- Settles O34: the form writes SP as a word, whose two bytes and second address are given as numbers. -/
theorem storeSpAtDirectAddress : Obligations.StoreSpAtDirectAddress := by
  intro s a
  have hexec := exec_form_answers (.ldAtA16Sp a) s
  rw [← add_one_eq_word, ← hi8_eq_byte, ← lo8_eq_byte]
  exact ⟨rfl, hexec⟩

end Sys2Proof.Machine
end

section
/-! The obligations about increment and decrement (42_incdec.md R160–R165). -/

namespace Sys2Proof.Machine

open Sys2Proof.Statement

/-! ## Encodings -/

theorem encode_ofInc (y : R8) : encode (Instr.ofInc y) = [byte (8 * r8Index y + 4)] := by
  cases y <;> rfl

theorem encode_ofDec (y : R8) : encode (Instr.ofDec y) = [byte (8 * r8Index y + 5)] := by
  cases y <;> rfl

theorem encode_ofIncRp (p : Rp) : encode (Instr.ofIncRp p) = [byte (16 * rpIndex p + 3)] := by
  cases p <;> rfl

theorem encode_ofDecRp (p : Rp) : encode (Instr.ofDecRp p) = [byte (16 * rpIndex p + 11)] := by
  cases p <;> rfl

/-! ## Effects over numbers -/

/-- Writing a result with its flags writes the operand, then F alone. -/
theorem State.writeResult_eq (s : State) (y : R8) (r : AluResult) :
    s.writeResult y r = { s.writeR8 y r.value with f := flagByte r.z r.n r.h r.c } :=
  State.setFlags_eq _ r.z r.n r.h r.c

theorem State.inc8_eq (s : State) (y : R8) :
    s.inc8 y =
      { s.writeR8 y (byte ((s.readR8 y).toNat + 1)) with
        f := flagByte (decide ((s.readR8 y).toNat = 255)) false (decide ((s.readR8 y).toNat % 16 = 15)) s.flagC } := by
  rw [State.inc8, incByte_eq, State.writeResult_eq, byte]

/-- Stepping down is adding 255, modulo 256. -/
theorem State.dec8_eq (s : State) (y : R8) :
    s.dec8 y =
      { s.writeR8 y (byte ((s.readR8 y).toNat + 255)) with
        f := flagByte (decide ((s.readR8 y).toNat = 1)) true (decide ((s.readR8 y).toNat % 16 = 0)) s.flagC } := by
  rw [State.dec8, decByte_eq, State.writeResult_eq, byte]

/-! ## What executing them answers -/

/-- The operand `(HL)` costs 8 more clock periods, for its read and its write. -/
theorem exec_ofInc_answers (s : State) (y : R8) :
    answers (exec (Instr.ofInc y) s) (s.inc8 y) (if y = .atHl then 12 else 4) := by
  have hexec : answers (exec (Instr.ofInc y) s) (s.inc8 y) (costT (.inc y)).1 := exec_form_answers (.inc y) s
  rwa [costT, apply_ite Prod.fst] at hexec

theorem exec_ofDec_answers (s : State) (y : R8) :
    answers (exec (Instr.ofDec y) s) (s.dec8 y) (if y = .atHl then 12 else 4) := by
  have hexec : answers (exec (Instr.ofDec y) s) (s.dec8 y) (costT (.dec y)).1 := exec_form_answers (.dec y) s
  rwa [costT, apply_ite Prod.fst] at hexec

/-- Settles O35: the forms answer `State.inc8` and `State.dec8`, whose result and flags are given as numbers. -/
theorem incrementAndDecrementByte : Obligations.IncrementAndDecrementByte := by
  intro s y
  dsimp only
  rw [← State.inc8_eq, ← State.dec8_eq]
  exact ⟨encode_ofInc y, exec_ofInc_answers s y, encode_ofDec y, exec_ofDec_answers s y⟩

/-- Settles O36: the forms write the pair one up or one down, as numbers by `add_one_eq_word` and `sub_one_eq_word`. -/
theorem incrementAndDecrementPair : Obligations.IncrementAndDecrementPair := by
  intro s p
  rw [← add_one_eq_word, ← sub_one_eq_word]
  exact ⟨encode_ofIncRp p, exec_form_answers (.incRp p) s, encode_ofDecRp p, exec_form_answers (.decRp p) s⟩

end Sys2Proof.Machine
end

section
/-! SUPPORT. Sums, complements and the results of the arithmetic rules, written with the statement vocabulary. -/

namespace Sys2Proof

open Sys2Proof.Statement

theorem add_eq_word (w v : Word) : w + v = word (w.toNat + v.toNat) := BitVec.add_def w v

theorem not_eq_byte (b : Byte) : ~~~b = byte (255 - b.toNat) := by
  apply BitVec.eq_of_toNat_eq
  rw [byte, BitVec.toNat_not, BitVec.toNat_ofNat, Nat.mod_eq_of_lt (by omega)]

theorem byte_toNat_of_lt {n : Nat} (hn : n < 256) : (byte n).toNat = n := Nat.mod_eq_of_lt hn

@[simp] theorem byte_toNat_self (b : Byte) : byte b.toNat = b := by
  rw [byte, BitVec.ofNat_toNat, BitVec.setWidth_eq]

/-- A number and its remainder modulo 256 give the same byte. -/
theorem byte_mod (n : Nat) : byte (n % 256) = byte n := by
  apply BitVec.eq_of_toNat_eq
  exact Nat.mod_mod n 256

end Sys2Proof

namespace Sys2Proof.Machine

open Sys2Proof.Statement

/-! ## The ALU operations (43_alu.md R170–R177) -/

theorem alu_value_toNat_eq_aluSpec (op : AluOp) (a v : Byte) (c : Bool) :
    (alu op a v c).value.toNat = (aluSpec op a.toNat v.toNat c.toNat).1 := by
  rw [alu_value_toNat]
  cases op <;> rfl

/-- Z tells whether the value is zero, but for CP, whose Z is SUB's. -/
theorem alu_z_eq_aluSpec (op : AluOp) (a v : Byte) (c : Bool) :
    (alu op a v c).z = (aluSpec op a.toNat v.toNat c.toNat).2.1 := by
  have hzero (o : AluOp) :
      ((alu o a v c).value == 0) = decide ((aluSpec o a.toNat v.toNat c.toNat).1 = 0) := by
    rw [beq_zero_eq, alu_value_toNat_eq_aluSpec]
  have hown := hzero op
  cases op with
  | cp => exact hzero .sub
  | _ => exact hown

theorem alu_n_eq_aluSpec (op : AluOp) (a v : Byte) (c : Bool) :
    (alu op a v c).n = (aluSpec op a.toNat v.toNat c.toNat).2.2.1 := by
  cases op <;> rfl

/-- The carries and borrows of the model are the comparisons of the rules; a missing carry in is 0. -/
theorem alu_h_eq_aluSpec (op : AluOp) (a v : Byte) (c : Bool) :
    (alu op a v c).h = (aluSpec op a.toNat v.toNat c.toNat).2.2.2.1 := by
  cases op <;> rfl

theorem alu_c_eq_aluSpec (op : AluOp) (a v : Byte) (c : Bool) :
    (alu op a v c).c = (aluSpec op a.toNat v.toNat c.toNat).2.2.2.2 := by
  cases op <;> rfl

/-! ## DAA (43_alu.md R180) -/

theorem daaSpec_lt (a : Nat) (n h c : Bool) : (daaSpec a n h c).1 < 256 := by
  unfold daaSpec
  split <;> exact Nat.mod_lt _ (by decide)

theorem decimalAdjust_eq_daaSpec (a : Byte) (n h c : Bool) :
    decimalAdjust a n h c = (byte (daaSpec a.toNat n h c).1, (daaSpec a.toNat n h c).2) := by
  rw [decimalAdjust_eq, daaSpec]
  cases n with
  | true => exact congrArg (·, c) (byte_mod _).symm
  | false => exact congrArg (·, c || decide (a.toNat > 0x99)) (byte_mod _).symm

end Sys2Proof.Machine
end

section
/-! The obligations about arithmetic and logic (43_alu.md R170–R184). -/

namespace Sys2Proof.Machine

open Sys2Proof.Statement

/-! ## Encodings -/

theorem encode_ofAlu (op : AluOp) (z : R8) :
    encode (Instr.ofAlu op z) = [byte (0x80 + 8 * aluIndex op + r8Index z)] := by
  cases op <;> cases z <;> rfl

theorem encode_ofAluImm (op : AluOp) (n : Byte) :
    encode (Instr.ofAluImm op n) = [byte (0xC6 + 8 * aluIndex op), n] := by
  cases op <;> rfl

theorem encode_ofAddHl (p : Rp) : encode (Instr.ofAddHl p) = [byte (16 * rpIndex p + 9)] := by
  cases p <;> rfl

/-! ## Effects over numbers -/

theorem State.aluWith_eq (s : State) (op : AluOp) (v : Byte) :
    s.aluWith op v =
      let r := aluSpec op s.a.toNat v.toNat s.flagC.toNat
      { s with a := byte r.1, f := flagByte r.2.1 r.2.2.1 r.2.2.2.1 r.2.2.2.2 } := by
  dsimp only
  rw [State.aluWith, State.setFlags_eq, alu_z_eq_aluSpec, alu_n_eq_aluSpec, alu_h_eq_aluSpec, alu_c_eq_aluSpec,
    ← alu_value_toNat_eq_aluSpec, byte_toNat_self]

theorem State.addHl_eq (s : State) (p : Rp) :
    s.addHl p =
      { s.setHl (word (s.hl.toNat + (s.readRp p).toNat)) with
        f := flagByte s.flagZ false (decide (s.hl.toNat % 4096 + (s.readRp p).toNat % 4096 > 4095))
          (decide (s.hl.toNat + (s.readRp p).toNat > 65535)) } := by
  rw [State.addHl, State.setFlags_eq, add_eq_word, carry12, carry16]

theorem State.addSp_eq (s : State) (e : Byte) :
    s.addSp e =
      { s with
        sp := BitVec.ofInt 16 (s.sp.toNat + e.toInt)
        f := flagByte false false (decide (s.sp.toNat % 16 + e.toNat % 16 > 15))
          (decide (s.sp.toNat % 256 + e.toNat > 255)) } := by
  rw [State.addSp, State.setFlags_eq, add_sext16, carry4_lo8, carry8_lo8]

theorem State.daa_eq (s : State) :
    s.daa =
      let r := daaSpec s.a.toNat s.flagN s.flagH s.flagC
      { s with a := byte r.1, f := flagByte (decide (r.1 = 0)) s.flagN false r.2 } := by
  dsimp only
  rw [State.daa, State.setFlags_eq, decimalAdjust_eq_daaSpec, beq_zero_eq, byte_toNat_of_lt (daaSpec_lt ..)]

theorem State.cpl_eq (s : State) :
    s.cpl = { s with a := byte (255 - s.a.toNat), f := flagByte s.flagZ true true s.flagC } := by
  rw [State.cpl, State.setFlags_eq, not_eq_byte]

/-! ## What executing them answers -/

/-- The operand `(HL)` costs 4 more clock periods, for its read. -/
theorem exec_ofAlu_answers (s : State) (op : AluOp) (z : R8) :
    answers (exec (Instr.ofAlu op z) s) (s.aluWith op (s.readR8 z)) (if z = .atHl then 8 else 4) := by
  have hexec : answers (exec (Instr.ofAlu op z) s) (s.aluWith op (s.readR8 z)) (costT (.alu op z)).1 :=
    exec_form_answers (.alu op z) s
  rwa [costT, apply_ite Prod.fst] at hexec

/-- Settles O37: all forms are `State.aluWith` on their operand, whose value and flags are `aluSpec`'s. -/
theorem aluResultsAndFlags : Obligations.AluResultsAndFlags := by
  intro s op z n
  dsimp only
  rw [← State.aluWith_eq, ← State.aluWith_eq]
  exact ⟨encode_ofAlu op z, exec_ofAlu_answers s op z, encode_ofAluImm op n, exec_form_answers (.aluImm op n) s⟩

/-- Settles O38: the form's effect, with the sum and the carries over numbers (`State.addHl_eq`). -/
theorem addPairToHl : Obligations.AddPairToHl := by
  intro s p
  have hexec := exec_form_answers (.addHl p) s
  rw [show (Form.addHl p).effect s = s.addHl p from rfl, State.addHl_eq] at hexec
  exact ⟨encode_ofAddHl p, hexec⟩

/-- Settles O39: the form's effect, with the signed sum and the carries of the unsigned low bytes over numbers
(`State.addSp_eq`). -/
theorem addDisplacementToSp : Obligations.AddDisplacementToSp := by
  intro s e
  rw [← State.addSp_eq]
  exact ⟨rfl, exec_form_answers (.addSpE8 e) s⟩

/-- Settles O40: the form's effect, with A and C as `daaSpec` gives them (`State.daa_eq`). The obligation's own name is
the model's function `decimalAdjust`. -/
theorem daaDecimalAdjust : Obligations.DecimalAdjust := by
  intro s
  dsimp only
  rw [← State.daa_eq]
  exact ⟨rfl, exec_form_answers .daa s⟩

/-- Settles O41: CPL by `State.cpl_eq`; SCF and CCF write the four flags and nothing else. -/
theorem complementAndCarryFlagInstructions : Obligations.ComplementAndCarryFlagInstructions := by
  intro s
  rw [← State.cpl_eq, ← State.setFlags_eq, ← State.setFlags_eq]
  exact ⟨rfl, exec_form_answers .cpl s, rfl, exec_form_answers .scf s, rfl, exec_form_answers .ccf s⟩

end Sys2Proof.Machine
end

section
/-! SUPPORT. What executing a form answers where its transfer is taken, and where it is not (30_encoding.md R102). -/

namespace Sys2Proof

open Sys2Proof.Machine Sys2Proof.Statement

theorem exec_form_answers_taken {f : Form} {s : State} (htaken : notTaken f s = false) :
    answers (exec f.instr s) (f.effect s) (costT f).1 := by
  have hexec := exec_form_answers f s
  rwa [htaken, if_neg Bool.false_ne_true] at hexec

theorem exec_form_answers_notTaken {f : Form} {s : State} (hnot : notTaken f s = true) :
    answers (exec f.instr s) (f.effect s) (costT f).2 := by
  have hexec := exec_form_answers f s
  rwa [hnot, if_pos rfl] at hexec

end Sys2Proof
end

section
/-! The obligations about jumps (45_jump.md R200–R204). -/

namespace Sys2Proof.Machine

open Sys2Proof.Statement

/-! ## Encodings -/

theorem encode_ofJr (k : Cc) (e : Byte) : encode (Instr.ofJr k e) = [byte (0x20 + 8 * ccIndex k), e] := by
  cases k <;> rfl

theorem encode_ofJp (k : Cc) (a : Word) : encode (Instr.ofJp k a) = [byte (0xC2 + 8 * ccIndex k), lo8 a, hi8 a] := by
  cases k <;> rfl

/-! ## Effects -/

/-- The target of a relative jump over numbers: the sum with the signed displacement, modulo 65536. -/
theorem State.jumpBy_eq (s : State) (e : Byte) :
    s.jumpBy e = { s with pc := BitVec.ofInt 16 (s.pc.toNat + e.toInt) } := by
  rw [State.jumpBy, add_sext16]

/-! ## What executing the conditional jumps answers -/

theorem exec_ofJr_answers_taken {s : State} {k : Cc} (e : Byte) (hcond : s.cond k = true) :
    answers (exec (Instr.ofJr k e) s) (s.jumpBy e) 12 := by
  have hexec := exec_form_answers_taken (f := .jrCc k e) (congrArg not hcond)
  rwa [Form.effect, if_pos hcond] at hexec

theorem exec_ofJr_answers_notTaken {s : State} {k : Cc} (e : Byte) (hcond : s.cond k = false) :
    answers (exec (Instr.ofJr k e) s) s 8 := by
  have hexec := exec_form_answers_notTaken (f := .jrCc k e) (congrArg not hcond)
  rwa [Form.effect, hcond, if_neg Bool.false_ne_true] at hexec

theorem exec_ofJp_answers_taken {s : State} {k : Cc} (a : Word) (hcond : s.cond k = true) :
    answers (exec (Instr.ofJp k a) s) (s.jumpTo a) 16 := by
  have hexec := exec_form_answers_taken (f := .jpCc k a) (congrArg not hcond)
  rwa [Form.effect, if_pos hcond] at hexec

theorem exec_ofJp_answers_notTaken {s : State} {k : Cc} (a : Word) (hcond : s.cond k = false) :
    answers (exec (Instr.ofJp k a) s) s 12 := by
  have hexec := exec_form_answers_notTaken (f := .jpCc k a) (congrArg not hcond)
  rwa [Form.effect, hcond, if_neg Bool.false_ne_true] at hexec

/-- Settles O48: both forms jump by the displacement, whose target is given as a number by `State.jumpBy_eq`; the
conditional one by its two cases. -/
theorem relativeJumps : Obligations.RelativeJumps := by
  intro s k e
  dsimp only
  rw [← State.jumpBy_eq]
  exact ⟨rfl, exec_form_answers (.jr e) s, encode_ofJr k e, exec_ofJr_answers_taken e, exec_ofJr_answers_notTaken e⟩

/-- Settles O49: each form writes PC with its target; the conditional one by its two cases. -/
theorem absoluteJumps : Obligations.AbsoluteJumps := fun s k a =>
  ⟨rfl, exec_form_answers (.jp a) s, rfl, exec_form_answers .jpHl s,
    encode_ofJp k a, exec_ofJp_answers_taken a, exec_ofJp_answers_notTaken a⟩

end Sys2Proof.Machine
end

section
/-! SUPPORT. What executing a conditional transfer answers, in one lemma over the form (30_encoding.md R102). -/

namespace Sys2Proof

open Sys2Proof.Machine Sys2Proof.Statement

/-- A form that transfers to `t` when its condition `b` holds, and changes nothing otherwise, costs the base cost in the
first case and the alternate cost in the second. -/
theorem exec_conditional_answers {f : Form} {s t : State} {b : Bool} (hnot : notTaken f s = !b)
    (heffect : f.effect s = if b then t else s) :
    (b = true → answers (exec f.instr s) t (costT f).1) ∧ (b = false → answers (exec f.instr s) s (costT f).2) := by
  refine ⟨fun hb => ?taken, fun hb => ?notTaken⟩
  case taken =>
    subst hb
    have hexec := exec_form_answers_taken hnot
    rwa [heffect, if_pos rfl] at hexec
  case notTaken =>
    subst hb
    have hexec := exec_form_answers_notTaken hnot
    rwa [heffect, if_neg Bool.false_ne_true] at hexec

end Sys2Proof
end

section
/-! The obligations about calls, returns and the stack (46_stack.md R210–R217). -/

namespace Sys2Proof.Machine

open Sys2Proof.Statement

/-! ## Encodings -/

theorem encode_ofCall (k : Cc) (a : Word) :
    encode (Instr.ofCall k a) = [byte (0xC4 + 8 * ccIndex k), lo8 a, hi8 a] := by
  cases k <;> rfl

theorem encode_ofRet (k : Cc) : encode (Instr.ofRet k) = [byte (0xC0 + 8 * ccIndex k)] := by
  cases k <;> rfl

theorem encode_ofRst (y : Fin 8) : encode (Instr.ofRst y) = [byte (0xC7 + 8 * y.val)] :=
  match y with | 0 | 1 | 2 | 3 | 4 | 5 | 6 | 7 => rfl

theorem encode_ofPush (p : Rp2) : encode (Instr.ofPush p) = [byte (0xC5 + 16 * rp2Index p)] := by
  cases p <;> rfl

theorem encode_ofPop (p : Rp2) : encode (Instr.ofPop p) = [byte (0xC1 + 16 * rp2Index p)] := by
  cases p <;> rfl

/-! ## Effects over the two stack bytes -/

theorem sub_two_add_one (w : Word) : w - 2 + 1 = w - 1 := by bv_omega

/-- A push writes the high byte just below SP and the low byte under it; writing them does not depend on SP (R218). -/
theorem State.push_eq (s : State) (v : Word) :
    s.push v = { (s.writeByte (s.sp - 1) (hi8 v)).writeByte (s.sp - 2) (lo8 v) with sp := s.sp - 2 } := by
  rw [State.push, State.writeWord, sub_two_add_one]
  rfl

theorem State.callTo_eq (s : State) (target : Word) :
    s.callTo target =
      { (s.writeByte (s.sp - 1) (hi8 s.pc)).writeByte (s.sp - 2) (lo8 s.pc) with sp := s.sp - 2, pc := target } := by
  rw [State.callTo, State.push_eq]

/-- A pair does not hold SP, so the order of writing the pair and stepping SP is not seen (R217). -/
theorem State.popRp2_eq (s : State) (p : Rp2) :
    s.popRp2 p = { s.writeRp2 p (join (s.readByte (s.sp + 1)) (s.readByte s.sp)) with sp := s.sp + 2 } := by
  cases p <;> rfl

/-! ## What executing them answers -/

/-- Settles O50: all three forms are `State.callTo`, whose two writes are given by `State.callTo_eq`; the conditional one
by its two cases. -/
theorem callsPushTheReturnAddress : Obligations.CallsPushTheReturnAddress := by
  intro s k a y
  dsimp only
  rw [← State.callTo_eq s a, ← State.callTo_eq s (word (y.val * 8))]
  obtain ⟨htaken, hnotTaken⟩ := exec_conditional_answers (f := .callCc k a) (s := s) rfl rfl
  exact ⟨rfl, exec_form_answers (.call a) s, encode_ofCall k a, htaken, hnotTaken,
    encode_ofRst y, exec_form_answers (.rst y) s⟩

/-- Settles O51: the forms are `State.returnPop`, which is the word at SP by definition, and RETI sets IME after it; the
conditional one by its two cases. -/
theorem returnsPopThePc : Obligations.ReturnsPopThePc := by
  intro s k
  obtain ⟨htaken, hnotTaken⟩ := exec_conditional_answers (f := .retCc k) (s := s) rfl rfl
  exact ⟨rfl, exec_form_answers .ret s, encode_ofRet k, htaken, hnotTaken, rfl, exec_form_answers .reti s⟩

/-- Settles O52: the forms' effects, with the bytes written and read given by `State.push_eq` and `State.popRp2_eq`. -/
theorem pushAndPopPairs : Obligations.PushAndPopPairs := by
  intro s p
  dsimp only
  rw [← State.push_eq, ← State.popRp2_eq]
  exact ⟨encode_ofPush p, exec_form_answers (.push p) s, encode_ofPop p, exec_form_answers (.pop p) s⟩

end Sys2Proof.Machine
end

section
/-! The obligation about the I/O-page loads (47_io_page.md R230–R233). -/

namespace Sys2Proof.Machine

open Sys2Proof.Statement

/-- The I/O-page address over numbers: the zero-extended offset is added to 0xFF00 (R83). -/
theorem ioAddress_eq_word (n : Byte) : ioAddress n = word (0xFF00 + n.toNat) := by
  rw [ioAddress, add_eq_word, zext16_toNat]
  rfl

/-- Settles O54: the four forms store or load A at `ioAddress` of the offset byte or of C, given as a number by
`ioAddress_eq_word`. -/
theorem inputOutputPageLoads : Obligations.InputOutputPageLoads := by
  intro s o
  rw [← ioAddress_eq_word, ← ioAddress_eq_word]
  exact ⟨rfl, exec_form_answers (.ldhAtA8A o) s, rfl, exec_form_answers (.ldhAAtA8 o) s,
    rfl, exec_form_answers .ldAtCA s, rfl, exec_form_answers .ldAAtC s⟩

end Sys2Proof.Machine
end

section
/-! SUPPORT. The rotates and shifts as the statements give them, and one bit of a byte cleared or set, over the natural
numbers. -/

namespace Sys2Proof

open Sys2Proof.Statement

/-! ## Rotates and shifts (48_prefix_cb.md R241–R248) -/

theorem Machine.rotate_eq_rotSpec (op : RotOp) (v : Byte) (c : Bool) :
    Machine.rotate op v c = (byte (rotSpec op v.toNat c.toNat).1, (rotSpec op v.toNat c.toNat).2) := by
  rw [Machine.rotate_eq]
  cases op <;> rfl

/-- A rotated or shifted byte is a byte, whatever the carry in. -/
theorem rotSpec_toNat_lt (op : RotOp) (v : Byte) (c : Bool) : (rotSpec op v.toNat c.toNat).1 < 256 := by
  have hv := v.isLt
  have hc := c.toNat_le
  cases op <;> dsimp only [rotSpec] <;> omega

/-! ## Masks -/

/-- What a mask clears and what it keeps share no bit, so they add up to the whole. -/
theorem and_not_add_and {w : Nat} (x m : BitVec w) : (x &&& ~~~m) + (x &&& m) = x := by
  have hdisjoint : (x &&& ~~~m) &&& (x &&& m) = 0#w := by ext; grind
  rw [BitVec.add_eq_or_of_and_eq_zero _ _ hdisjoint]
  ext; grind

/-- Setting the bits of a mask is clearing them, then adding the mask. -/
theorem and_not_add_self {w : Nat} (x m : BitVec w) : (x &&& ~~~m) + m = x ||| m := by
  have hdisjoint : (x &&& ~~~m) &&& m = 0#w := by ext; grind
  rw [BitVec.add_eq_or_of_and_eq_zero _ _ hdisjoint]
  ext; grind

/-! ## One bit of a byte (48_prefix_cb.md R250, R251) -/

/-- The mask of a bit is the bit's weight. -/
theorem one_shiftLeft_eq_byte (i : Nat) : 1#8 <<< i = byte (2 ^ i) := by
  rw [← BitVec.twoPow_eq]
  exact BitVec.eq_of_toNat_eq (BitVec.toNat_twoPow 8 i)

theorem and_weight_eq (v : Byte) (i : Nat) : v &&& byte (2 ^ i) = if bitOf v i then byte (2 ^ i) else 0#8 := by
  rw [← one_shiftLeft_eq_byte, ← BitVec.twoPow_eq, BitVec.and_twoPow, bitOf]

/-- Taking the weight of a bit off a byte where the bit is set does not borrow. -/
theorem byte_sub_weight {v : Byte} {i : Nat} (hi : i < 8) (hset : bitOf v i = true) :
    byte (v.toNat - 2 ^ i) = v - byte (2 ^ i) := by
  have hle : 2 ^ i ≤ v.toNat := Nat.ge_two_pow_of_testBit hset
  rw [byte, ← BitVec.ofNat_sub_ofNat_of_le _ _ (Nat.pow_lt_pow_right (by decide) hi) hle, ← byte, byte_toNat_self, byte]

theorem byte_add_weight (v : Byte) (i : Nat) : byte (v.toNat + 2 ^ i) = v + byte (2 ^ i) := by
  rw [byte, BitVec.ofNat_add, ← byte, byte_toNat_self, byte]

/-- Clearing a bit takes its weight off where it is set. -/
theorem and_not_bit_eq (v : Byte) {i : Nat} (hi : i < 8) :
    v &&& ~~~(1#8 <<< i) = byte (if bitOf v i then v.toNat - 2 ^ i else v.toNat) := by
  have hsum := and_not_add_and v (byte (2 ^ i))
  rw [and_weight_eq] at hsum
  rw [one_shiftLeft_eq_byte]
  split_ifs at hsum ⊢ with hset
  case pos => rw [byte_sub_weight hi hset, BitVec.eq_sub_iff_add_eq, hsum]
  case neg => rw [byte_toNat_self, ← BitVec.add_zero (v &&& _), hsum]

/-- Setting a bit adds its weight where it is clear. -/
theorem or_bit_eq (v : Byte) (i : Nat) :
    v ||| 1#8 <<< i = byte (if bitOf v i then v.toNat else v.toNat + 2 ^ i) := by
  have hsum := and_not_add_and v (byte (2 ^ i))
  rw [and_weight_eq] at hsum
  rw [one_shiftLeft_eq_byte, ← and_not_add_self]
  split_ifs at hsum ⊢ with hset
  case pos => rw [hsum, byte_toNat_self]
  case neg => rw [byte_add_weight, ← BitVec.add_zero (v &&& _), hsum]

end Sys2Proof
end

section
/-! The obligations about the secondary space (48_prefix_cb.md R240–R251). -/

namespace Sys2Proof.Machine

open Sys2Proof.Statement

/-! ## Encodings: the byte, and that it follows the prefix -/

theorem encode_space_ofRot (op : RotOp) (z : R8) :
    encode (Instr.ofRot op z) = [byte (8 * rotIndex op + r8Index z)] ∧ (Instr.ofRot op z).space = .secondary := by
  cases op <;> cases z <;> exact ⟨rfl, rfl⟩

theorem encode_space_ofBit (y : Fin 8) (z : R8) :
    encode (Instr.ofBit y z) = [byte (0x40 + 8 * y.val + r8Index z)] ∧ (Instr.ofBit y z).space = .secondary := by
  cases z <;> (match y with | 0 | 1 | 2 | 3 | 4 | 5 | 6 | 7 => exact ⟨rfl, rfl⟩)

theorem encode_space_ofRes (y : Fin 8) (z : R8) :
    encode (Instr.ofRes y z) = [byte (0x80 + 8 * y.val + r8Index z)] ∧ (Instr.ofRes y z).space = .secondary := by
  cases z <;> (match y with | 0 | 1 | 2 | 3 | 4 | 5 | 6 | 7 => exact ⟨rfl, rfl⟩)

theorem encode_space_ofSet (y : Fin 8) (z : R8) :
    encode (Instr.ofSet y z) = [byte (0xC0 + 8 * y.val + r8Index z)] ∧ (Instr.ofSet y z).space = .secondary := by
  cases z <;> (match y with | 0 | 1 | 2 | 3 | 4 | 5 | 6 | 7 => exact ⟨rfl, rfl⟩)

/-! ## Effects over numbers -/

theorem State.rotR8_eq (s : State) (op : RotOp) (z : R8) :
    s.rotR8 op z =
      let r := rotSpec op (s.readR8 z).toNat s.flagC.toNat
      { s.writeR8 z (byte r.1) with f := flagByte (decide (r.1 = 0)) false false r.2 } := by
  dsimp only
  rw [State.rotR8, State.setFlags_eq, rotate_eq_rotSpec, beq_zero_eq, byte_toNat_of_lt (rotSpec_toNat_lt ..)]

theorem State.bitR8_eq (s : State) (y : Fin 8) (z : R8) :
    s.bitR8 y z = { s with f := flagByte (!bitOf (s.readR8 z) y) false true s.flagC } :=
  State.setFlags_eq ..

theorem State.resR8_eq (s : State) (y : Fin 8) (z : R8) :
    s.resR8 y z =
      s.writeR8 z (byte (if bitOf (s.readR8 z) y then (s.readR8 z).toNat - 2 ^ y.val else (s.readR8 z).toNat)) := by
  rw [State.resR8, and_not_bit_eq _ y.isLt]

theorem State.setR8_eq (s : State) (y : Fin 8) (z : R8) :
    s.setR8 y z =
      s.writeR8 z (byte (if bitOf (s.readR8 z) y then (s.readR8 z).toNat else (s.readR8 z).toNat + 2 ^ y.val)) := by
  rw [State.setR8, or_bit_eq]

/-! ## What executing them answers -/

/-- A form that transfers nothing and whose cost depends on its operand alone answers its effect, at `m` clock periods
for the operand `(HL)` and `n` for a register. -/
theorem exec_operand_answers {f : Form} {s : State} {z : R8} {m n : Nat} (htaken : notTaken f s = false)
    (hcost : costT f = if z = .atHl then (m, m) else (n, n)) :
    answers (exec f.instr s) (f.effect s) (if z = .atHl then m else n) := by
  have hexec := exec_form_answers_taken htaken
  rwa [hcost, apply_ite Prod.fst] at hexec

/-- Settles O44: the forms answer `State.rotR8`, whose result and evicted bit are `rotSpec`'s (`State.rotR8_eq`). -/
theorem secondaryRotatesAndShifts : Obligations.SecondaryRotatesAndShifts := by
  intro s op z
  dsimp only
  rw [← State.rotR8_eq]
  obtain ⟨hencode, hspace⟩ := encode_space_ofRot op z
  exact ⟨hencode, hspace, exec_operand_answers (f := .rot op z) rfl rfl⟩

/-- Settles O45: the bit of the operand is `bitOf` (`bitOf_eq`); BIT reads it into Z, and RES and SET take its weight off
or add it where that changes the bit (`State.resR8_eq`, `State.setR8_eq`). -/
theorem bitTestResetAndSet : Obligations.BitTestResetAndSet := by
  intro s y z
  dsimp only
  rw [← bitOf_eq, ← State.bitR8_eq, ← State.resR8_eq, ← State.setR8_eq]
  obtain ⟨hbit, hbitSpace⟩ := encode_space_ofBit y z
  obtain ⟨hres, hresSpace⟩ := encode_space_ofRes y z
  obtain ⟨hset, hsetSpace⟩ := encode_space_ofSet y z
  exact ⟨hbit, hbitSpace, exec_operand_answers (f := .bit y z) rfl rfl,
    hres, hresSpace, exec_operand_answers (f := .res y z) rfl rfl,
    hset, hsetSpace, exec_operand_answers (f := .set y z) rfl rfl⟩

/-- Settles O46: the form's effect is `State.enterSecondary`, which sets the latch. -/
theorem prefixSetsTheLatch : Obligations.PrefixSetsTheLatch := fun s =>
  ⟨rfl, rfl, exec_form_answers .prefixCb s⟩

end Sys2Proof.Machine
end

section
/-! SUPPORT. How an entry of the opcode table reads an instruction with its immediate bytes, and that the rows of the
encoder are the entries of the decoder (30_encoding.md R81–R93). -/

namespace Sys2Proof

open Sys2Proof.Machine Sys2Proof.Statement

/-- An entry reads an instruction from the immediate bytes in memory order, low byte first (R82, R83). -/
inductive Entry.Reads : Entry → Instr → List Byte → Prop
  | plain (i : Instr) : Entry.Reads (.plain i) i []
  | imm8 (mk : Byte → Instr) (n : Byte) : Entry.Reads (.imm8 mk) (mk n) [n]
  | imm16 (mk : Word → Instr) (v : Word) : Entry.Reads (.imm16 mk) (mk v) [lo8 v, hi8 v]

/-- Decoding is finding the entry of the first byte and reading what it says from the bytes after it. -/
theorem decode_eq_ok_iff {sp : Space} {bytes rest : List Byte} {i : Instr} :
    decode sp bytes = .ok (i, rest) ↔
      ∃ b e imm, entry sp b = some e ∧ e.Reads i imm ∧ bytes = b :: imm ++ rest := by
  constructor
  case mp =>
    intro h
    cases bytes with
    | nil => cases h
    | cons b more =>
      simp only [decode] at h
      split at h
      case h_1 => cases h
      case h_2 j he =>
        cases h
        exact ⟨b, _, _, he, .plain _, rfl⟩
      case h_3 mk he =>
        split at h
        · cases h
          exact ⟨b, _, _, he, .imm8 _ _, rfl⟩
        · cases h
      case h_4 mk he =>
        split at h
        · next lo hi _ =>
          cases h
          exact ⟨b, _, _, he, .imm16 _ (join hi lo), by rw [lo8_join, hi8_join]; rfl⟩
        · cases h
  case mpr =>
    rintro ⟨b, e, imm, he, hreads, rfl⟩
    cases hreads with
    | plain => simp only [List.cons_append, List.nil_append, decode, he]
    | imm8 => simp only [List.cons_append, List.nil_append, decode, he]
    | imm16 => simp only [List.cons_append, List.nil_append, decode, he, join_hi_lo]

/-- A byte without an entry is refused by itself (R94). -/
theorem decode_of_entry_eq_none {sp : Space} {b : Byte} (rest : List Byte) (habsent : entry sp b = none) :
    decode sp (b :: rest) = .error (.noEntry sp b) := by
  simp only [decode, habsent]

/-! ## From the rows to the table -/

/-- The decoder's entry at an instruction's opcode reads that instruction from its immediate bytes. -/
theorem Instr.exists_entry (i : Instr) : ∃ e, entry i.space i.opcode = some e ∧ e.Reads i i.row.imm := by
  cases i <;> dsimp only [Instr.space, Instr.opcode, Instr.row] <;> refine ⟨_, rfl, ?_⟩ <;> constructor

/-! ## From the table to the rows -/

/-- The opcode byte with given fields (R81). -/
def ofFields (x : Fin 4) (y z : Fin 8) : Byte := byte (64 * x.val + 8 * y.val + z.val)

theorem ofFields_toNat (x : Fin 4) (y z : Fin 8) : (ofFields x y z).toNat = 64 * x.val + 8 * y.val + z.val :=
  Nat.mod_eq_of_lt (by omega)

@[simp] theorem fieldX_ofFields (x : Fin 4) (y z : Fin 8) : fieldX (ofFields x y z) = x := by
  ext; simp only [fieldX, ofFields_toNat]; omega
@[simp] theorem fieldY_ofFields (x : Fin 4) (y z : Fin 8) : fieldY (ofFields x y z) = y := by
  ext; simp only [fieldY, ofFields_toNat]; omega
@[simp] theorem fieldZ_ofFields (x : Fin 4) (y z : Fin 8) : fieldZ (ofFields x y z) = z := by
  ext; simp only [fieldZ, ofFields_toNat]; omega

/-- A byte is its three fields. -/
theorem exists_ofFields (b : Byte) : ∃ x y z, b = ofFields x y z := by
  refine ⟨fieldX b, fieldY b, fieldZ b, BitVec.eq_of_toNat_eq ?_⟩
  rw [ofFields_toNat]
  simp only [fieldX, fieldY, fieldZ]
  omega

@[simp] theorem r8Index_ofField (y : Fin 8) : r8Index (R8.ofField y) = y.val :=
  match y with | 0 | 1 | 2 | 3 | 4 | 5 | 6 | 7 => rfl
@[simp] theorem aluIndex_ofField (y : Fin 8) : aluIndex (AluOp.ofField y) = y.val :=
  match y with | 0 | 1 | 2 | 3 | 4 | 5 | 6 | 7 => rfl
@[simp] theorem rotIndex_ofField (y : Fin 8) : rotIndex (RotOp.ofField y) = y.val :=
  match y with | 0 | 1 | 2 | 3 | 4 | 5 | 6 | 7 => rfl

theorem space_ofLd (y z : R8) : (Instr.ofLd y z).space = .primary := by cases y <;> cases z <;> rfl
theorem space_ofAlu (op : AluOp) (z : R8) : (Instr.ofAlu op z).space = .primary := by cases op <;> cases z <;> rfl

/-- What the first quarter of the primary space reads is encoded by its byte: row by row, by y and z (R89). -/
theorem entryX0_reads {y z : Fin 8} {i : Instr} {imm : List Byte} (hreads : (entryX0 (ofFields 0 y z)).Reads i imm) :
    i.space = .primary ∧ encode i = ofFields 0 y z :: imm := by
  fin_cases y <;> fin_cases z <;> cases hreads <;> exact ⟨rfl, rfl⟩

/-- What the last quarter of the primary space reads is encoded by its byte: row by row, by y and z (R92). -/
theorem entryX3_reads {y z : Fin 8} {e : Entry} {i : Instr} {imm : List Byte}
    (hentry : entryX3 (ofFields 3 y z) = some e) (hreads : e.Reads i imm) :
    i.space = .primary ∧ encode i = ofFields 3 y z :: imm := by
  fin_cases y <;> fin_cases z <;> cases hentry <;> cases hreads <;> exact ⟨rfl, rfl⟩

/-- What the primary space reads is encoded by its byte: the loads and the ALU operations hold the indexes of their
operands (R90, R91), the other two quarters are read row by row. -/
theorem entryPrimary_reads {b : Byte} {e : Entry} {i : Instr} {imm : List Byte} (hentry : entryPrimary b = some e)
    (hreads : e.Reads i imm) : i.space = .primary ∧ encode i = b :: imm := by
  obtain ⟨x, y, z, rfl⟩ := exists_ofFields b
  rw [entryPrimary, fieldX_ofFields, fieldY_ofFields, fieldZ_ofFields] at hentry
  match x with
  | 0 => cases hentry; exact entryX0_reads hreads
  | 1 =>
    cases hentry; cases hreads
    exact ⟨space_ofLd _ _, by simp [encode_ofLd, ofFields]⟩
  | 2 =>
    cases hentry; cases hreads
    exact ⟨space_ofAlu _ _, by simp [encode_ofAlu, ofFields]⟩
  | 3 => exact entryX3_reads hentry hreads

/-- The secondary-space instruction of a byte is encoded by that byte (R93). -/
theorem encode_space_secondaryInstr (b : Byte) :
    encode (secondaryInstr b) = [b] ∧ (secondaryInstr b).space = .secondary := by
  obtain ⟨x, y, z, rfl⟩ := exists_ofFields b
  rw [secondaryInstr, fieldX_ofFields, fieldY_ofFields, fieldZ_ofFields]
  match x with
  | 0 => simpa [ofFields] using encode_space_ofRot (RotOp.ofField y) (R8.ofField z)
  | 1 => simpa [ofFields] using encode_space_ofBit y (R8.ofField z)
  | 2 => simpa [ofFields] using encode_space_ofRes y (R8.ofField z)
  | 3 => simpa [ofFields] using encode_space_ofSet y (R8.ofField z)

/-- What an entry of the table reads is encoded by its byte, in its space. -/
theorem entry_reads {sp : Space} {b : Byte} {e : Entry} {i : Instr} {imm : List Byte} (hentry : entry sp b = some e)
    (hreads : e.Reads i imm) : i.space = sp ∧ encode i = b :: imm := by
  cases sp with
  | primary => exact entryPrimary_reads hentry hreads
  | secondary =>
    cases hentry; cases hreads
    exact (encode_space_secondaryInstr b).symm

end Sys2Proof
end

section
/-! The obligations about decoding and encoding (30_encoding.md sections 3 to 5). -/

namespace Sys2Proof.Machine

/-- Settles O2: the entry at the instruction's opcode reads the instruction back (`Instr.exists_entry`). -/
theorem decodeOfEncodeIsTheInstruction : Obligations.DecodeOfEncodeIsTheInstruction := by
  intro i rest
  obtain ⟨e, hentry, hreads⟩ := i.exists_entry
  exact decode_eq_ok_iff.2 ⟨i.opcode, e, i.row.imm, hentry, hreads, rfl⟩

/-- Settles O3: what decodes was read by an entry of the space, and what an entry reads is encoded by the entry's byte
(`entry_reads`). -/
theorem decodedBytesAreTheEncoding : Obligations.DecodedBytesAreTheEncoding := by
  intro sp bytes rest i hdecode
  obtain ⟨b, e, imm, hentry, hreads, rfl⟩ := decode_eq_ok_iff.1 hdecode
  obtain ⟨hspace, hencode⟩ := entry_reads hentry hreads
  exact ⟨hspace, by rw [hencode]⟩

/-- Settles O4: by `Instr.instr_form`. -/
theorem everyInstructionHasItsForm : Obligations.EveryInstructionHasItsForm := Instr.instr_form

end Sys2Proof.Machine
end

section
/-! The obligations about the length of an instruction and sample words (30_encoding.md sections 3 to 5). -/

namespace Sys2Proof

open Sys2Proof.Machine

/-- How many immediate bytes an entry of the table waits for (R82). -/
def Entry.immCount : Entry → Nat
  | .plain _ => 0
  | .imm8 _ => 1
  | .imm16 _ => 2

theorem Entry.Reads.length_eq {e : Entry} {i : Instr} {imm : List Byte} (hreads : e.Reads i imm) :
    imm.length = e.immCount := by
  cases hreads <;> rfl

/-- An instruction is one byte longer than what its entry waits for. -/
theorem Instr.byteLength_eq (i : Instr) : (entry i.space i.opcode).map (fun e => e.immCount + 1) = some i.byteLength := by
  obtain ⟨e, hentry, hreads⟩ := i.exists_entry
  rw [hentry, Option.map_some, ← hreads.length_eq]
  rfl

/-- The lengths of the primary space, byte by byte (R97). -/
theorem entry_primary_immCount (b : Byte) : (entry .primary b).all (fun e => e.immCount + 1 ==
      if b ∈ [0x06#8, 0x0E#8, 0x16#8, 0x1E#8, 0x26#8, 0x2E#8, 0x36#8, 0x3E#8] ∨
          b ∈ [0x18#8, 0x20#8, 0x28#8, 0x30#8, 0x38#8] ∨
          b ∈ [0xC6#8, 0xCE#8, 0xD6#8, 0xDE#8, 0xE6#8, 0xEE#8, 0xF6#8, 0xFE#8] ∨
          b ∈ [0xE0#8, 0xF0#8, 0xE8#8, 0xF8#8, 0x10#8] then 2
      else if b ∈ [0x01#8, 0x11#8, 0x21#8, 0x31#8, 0x08#8] ∨
          b ∈ [0xC2#8, 0xC3#8, 0xCA#8, 0xD2#8, 0xDA#8] ∨
          b ∈ [0xC4#8, 0xCC#8, 0xCD#8, 0xD4#8, 0xDC#8] ∨ b ∈ [0xEA#8, 0xFA#8] then 3
      else 1) = true := by
  revert b; decide +kernel

end Sys2Proof

namespace Sys2Proof.Machine

/-- Settles O6: an instruction's length is the one its entry waits for (`Instr.byteLength_eq`), which is R97's at each
primary byte and 1 at each secondary byte. -/
theorem lengthFollowsFromFirstByte : Obligations.LengthFollowsFromFirstByte := by
  intro i
  have hlength := i.byteLength_eq
  refine ⟨fun hspace => ?primary, fun hspace => ?secondary, fun b rest => decode_of_entry_eq_none rest⟩
  case primary =>
    obtain ⟨e, hentry, hcount⟩ := Option.map_eq_some_iff.1 hlength
    have hlist := entry_primary_immCount i.opcode
    rw [← hspace, hentry, Option.all_some, beq_iff_eq, hcount] at hlist
    exact hlist
  case secondary =>
    rw [hspace] at hlength
    exact (Option.some.inj hlength).symm

/-- Settles O7: the words are the encodings of the instructions, and 0xD3 has no entry. -/
theorem sampleWordsDecode : Obligations.SampleWordsDecode := by
  have hdecode (i : Instr) := decodeOfEncodeIsTheInstruction i []
  exact ⟨hdecode .ldAB, hdecode (.ldSpD16 0xFFFE#16), hdecode (.jrNzE8 0xFC#8), hdecode .sbcAH, hdecode .popAf,
    hdecode (.callCA16 0xC100#16), hdecode .rst28, hdecode .bit7H, hdecode .set3AtHl, hdecode .set1E,
    decode_of_entry_eq_none [] rfl⟩

end Sys2Proof.Machine
end

section
/-! SUPPORT. Addresses that reach the same byte of RAM are those with the same backing cell (20_memory.md R52). -/

namespace Sys2Proof.Machine

open Sys2Proof.Statement

/-- The cell of an address, without its case split: a number in RAM or its echo, the echo 0x2000 lower. -/
theorem storageCell_eq_some_iff {a : Word} {k : Nat} : storageCell a = some k ↔
    backed a ∧ (¬ inEcho a ∧ a.toNat = k ∨ inEcho a ∧ a.toNat = k + 0x2000) := by
  rw [storageCell_eq]
  unfold backed inEcho
  split_ifs <;> simp only [Option.some.injEq, false_iff] <;> omega

theorem backed_iff_exists_cell (a : Word) : backed a ↔ ∃ k, storageCell a = some k := by
  constructor
  case mp =>
    intro ha
    by_cases hecho : inEcho a
    · exact ⟨a.toNat - 0x2000, storageCell_eq_some_iff.2 ⟨ha, .inr ⟨hecho, by unfold inEcho at hecho; omega⟩⟩⟩
    · exact ⟨a.toNat, storageCell_eq_some_iff.2 ⟨ha, .inl ⟨hecho, rfl⟩⟩⟩
  case mpr =>
    rintro ⟨k, hk⟩
    exact (storageCell_eq_some_iff.1 hk).1

theorem sameByte_iff_same_cell (a b : Word) :
    sameByte a b ↔ ∃ k, storageCell a = some k ∧ storageCell b = some k := by
  constructor
  case mp =>
    rintro ⟨ha, hab⟩
    obtain ⟨k, hk⟩ := (backed_iff_exists_cell a).1 ha
    refine ⟨k, hk, ?_⟩
    obtain ⟨-, hcell⟩ := storageCell_eq_some_iff.1 hk
    rcases hab with rfl | hab
    · exact hk
    · rw [storageCell_eq_some_iff]
      unfold backed inEcho at *
      omega
  case mpr =>
    rintro ⟨k, ha, hb⟩
    rw [storageCell_eq_some_iff] at ha hb
    refine ⟨ha.1, ?_⟩
    rw [← BitVec.toNat_inj]
    unfold inEcho at *
    omega

/-- An address and the next one reach different bytes. -/
theorem not_sameByte_add_one (a : Word) : ¬ sameByte a (a + 1) := by
  unfold sameByte backed inEcho
  bv_omega

/-- A byte of RAM reads as written through every address that reaches it. -/
theorem State.readByte_writeByte_of_sameByte {s : State} {a b : Word} (v : Byte) (hwf : Memory.wf s.mem)
    (hsame : sameByte a b) : (s.writeByte a v).readByte b = v := by
  obtain ⟨k, ha, hb⟩ := (sameByte_iff_same_cell a b).1 hsame
  exact s.readByte_writeByte_same a b v k hwf ha hb

theorem State.readByte_writeByte_of_not_sameByte {s : State} {a b : Word} (v : Byte) (habove : 0xFF < b.toNat)
    (hother : ¬ sameByte a b) : (s.writeByte a v).readByte b = s.readByte b :=
  s.readByte_writeByte_other a b v habove fun k hk => hother ((sameByte_iff_same_cell a b).2 ⟨k, hk⟩)

/-- A word written where both addresses have RAM behind them reads back, since they reach different bytes (R58, R59). -/
theorem State.readWord_writeWord {s : State} {a : Word} (v : Word) (hwf : Memory.wf s.mem) (hlow : backed a)
    (hhigh : backed (a + 1)) : (s.writeWord a v).readWord a = v := by
  have hwf' := s.writeByte_wf (a + 1) (hi8 v) hwf
  have habove : 0xFF < (a + 1).toNat := by
    obtain ⟨k, hk⟩ := (backed_iff_exists_cell _).1 hhigh
    exact overlay_lt_of_storageCell hk
  rw [State.readWord, State.writeWord,
    State.readByte_writeByte_of_not_sameByte _ habove (not_sameByte_add_one a),
    State.readByte_writeByte_of_sameByte _ hwf ⟨hhigh, .inl rfl⟩,
    State.readByte_writeByte_of_sameByte _ hwf' ⟨hlow, .inl rfl⟩, join_hi_lo]

end Sys2Proof.Machine
end

section
/-! The obligations about the memory interconnect (20_memory.md section 2). -/

namespace Sys2Proof.Machine

open Sys2Proof.Statement

/-- Settles O21: above the overlay range a write is seen exactly through the addresses of its byte
(`sameByte_iff_same_cell`), in it only through the overlay flag. -/
theorem writeByteChangesOneByte : Obligations.WriteByteChangesOneByte := by
  intro s a b v
  refine ⟨State.readByte_writeByte_of_sameByte v, fun hother habove => ?above, fun hb hkept => ?kept,
    fun hb hunmapped => ?unmapped, ?flag, rfl⟩
  case above => exact State.readByte_writeByte_of_not_sameByte v habove hother
  case kept => exact (State.readByte_writeByte_overlay s a b v hb).trans (if_neg hkept)
  case unmapped => exact (State.readByte_writeByte_overlay s a b v hb).trans (if_pos hunmapped)
  case flag =>
    rw [State.writeByte_overlayMapped]
    by_cases ha : a = 0xFF50#16 <;> by_cases hv : v = 0#8 <;> simp [ha, hv]

/-- Settles O22: an echo address and the one 0x2000 below it reach the same byte. -/
theorem echoAliasing : Obligations.EchoAliasing := by
  intro s a v hwf hlow hhigh
  have hecho : inEcho a := ⟨hlow, hhigh⟩
  have hbelow : (a - 0x2000#16).toNat + 0x2000 = a.toNat := by bv_omega
  have hbacked : backed (a - 0x2000#16) := by unfold backed; omega
  exact ⟨State.readByte_writeByte_of_sameByte v hwf ⟨.inr (.inr (.inl hecho)), .inr (.inl ⟨hecho, hbelow⟩)⟩,
    State.readByte_writeByte_of_sameByte v hwf ⟨hbacked, .inr (.inr ⟨hecho, hbelow⟩)⟩⟩

/-- Settles O23: a word is the `join` of its two bytes, the high one at the next address (`add_one_eq_word`); it reads
back by `State.readWord_writeWord`. -/
theorem wordsAreLittleEndian : Obligations.WordsAreLittleEndian := by
  intro s a v
  rw [← add_one_eq_word, ← hi8_eq_byte, ← lo8_eq_byte]
  exact ⟨join_toNat _ _, rfl, State.readWord_writeWord v⟩

end Sys2Proof.Machine
end

section
/-! SUPPORT. What the effect of every form writes, said once: the bytes it stores, the flags and the registers. -/

namespace Sys2Proof.Machine

open Sys2Proof.Statement

/-! ## Stores -/

/-- Memory and the overlay flag of `t` are those of `s` after byte writes at the addresses, in their order. -/
inductive Stored (t : State) : List Word → State → Prop
  | nil {s : State} (hmem : t.mem = s.mem) (hoverlay : t.overlayMapped = s.overlayMapped) : Stored t [] s
  | cons {l : List Word} {s : State} (a : Word) (v : Byte) (h : Stored t l (s.writeByte a v)) : Stored t (a :: l) s

theorem Stored.writeR8 (s : State) (y : R8) (v : Byte) :
    Stored (s.writeR8 y v) (if y = .atHl then [s.hl] else []) s := by
  cases y with
  | atHl => exact .cons s.hl v (.nil rfl rfl)
  | _ => exact .nil rfl rfl

/-- What else an operation changes does not matter. -/
theorem Stored.congr {s t u : State} {l : List Word} (h : Stored u l s) (hmem : t.mem = u.mem)
    (hoverlay : t.overlayMapped = u.overlayMapped) : Stored t l s := by
  induction h with
  | nil hm ho => exact .nil (hmem.trans hm) (hoverlay.trans ho)
  | cons a v _ ih => exact .cons a v ih

theorem Stored.push (s : State) (v : Word) : Stored (s.push v) [s.sp - 1, s.sp - 2] s := by
  rw [State.push_eq]
  exact .cons _ (hi8 v) (.cons _ (lo8 v) (.nil rfl rfl))

variable {s t : State} {l : List Word}

theorem Stored.wf (h : Stored t l s) (hwf : Memory.wf s.mem) : Memory.wf t.mem := by
  induction h with
  | nil hmem _ => rw [hmem]; exact hwf
  | cons a v _ ih => exact ih (State.writeByte_wf _ a v hwf)

theorem Stored.cells (h : Stored t l s) (hcells : ∀ c ∈ s.mem, isCell c.1 = true) :
    ∀ c ∈ t.mem, isCell c.1 = true := by
  induction h with
  | nil hmem _ => rw [hmem]; exact hcells
  | cons a v _ ih => exact ih (State.writeByte_cells _ a v hcells)

/-- Stores never map the overlay (R62). -/
theorem Stored.overlayMapped_eq_false (h : Stored t l s) (hoff : s.overlayMapped = false) : t.overlayMapped = false := by
  induction h with
  | nil _ hoverlay => rw [hoverlay, hoff]
  | cons a v _ ih =>
    refine ih ?_
    rw [State.writeByte_overlayMapped, hoff, ite_self]

/-- Stores keep the overlay flag unless one of them is at 0xFF50 (R62). -/
theorem Stored.overlayMapped_eq (h : Stored t l s) (hport : 0xFF50#16 ∉ l) : t.overlayMapped = s.overlayMapped := by
  induction h with
  | nil _ hoverlay => exact hoverlay
  | cons a v _ ih =>
    rw [List.mem_cons, not_or] at hport
    rw [ih hport.2, State.writeByte_overlayMapped, if_neg fun hport' => hport.1 hport'.1.symm]

/-- An address that reaches none of the stored bytes reads as before; below 0x0100 only a store at 0xFF50 is seen. -/
theorem Stored.readByte (h : Stored t l s) (hparams : t.params = s.params) {b : Word} (hother : ∀ a ∈ l, ¬ sameByte a b)
    (hport : b.toNat ≤ 0xFF → 0xFF50#16 ∉ l) : t.readByte b = s.readByte b := by
  induction h with
  | nil hmem hoverlay => exact State.readByte_congr hoverlay hmem (congrArg Params.bootRom hparams) b
  | @cons l s a v _ ih =>
    simp only [List.mem_cons, forall_eq_or_imp, not_or] at hother hport
    rw [ih hparams hother.2 fun hb => (hport hb).2]
    rcases Nat.lt_or_ge 0xFF b.toNat with habove | hb
    · exact State.readByte_writeByte_of_not_sameByte v habove hother.1
    · rw [State.readByte_writeByte_overlay s a b v hb, if_neg fun hport' => (hport hb).1 hport'.1.symm]

/-! ## Flags -/

theorem bitOf_packFlags (z n h c : Bool) :
    bitOf (packFlags z n h c) 7 = z ∧ bitOf (packFlags z n h c) 6 = n ∧ bitOf (packFlags z n h c) 5 = h ∧
      bitOf (packFlags z n h c) 4 = c := by
  revert z n h c; decide

/-- From `s` to `t` F is kept, or written with its low nibble 0; a flag that the form does not write keeps its value. -/
def FlagFrame (form : Form) (s t : State) : Prop :=
  t.f = s.f ∨ ∃ z n h c, t.f = packFlags z n h c ∧ (writesZ form = false → z = s.flagZ) ∧
    (writesN form = false → n = s.flagN) ∧ (writesH form = false → h = s.flagH) ∧ (writesC form = false → c = s.flagC)

/-- `setFlags` is how every form but `POP AF` writes F. -/
theorem FlagFrame.setFlags {form : Form} {z n h c : Bool} (hf : t.f = packFlags z n h c &&& 0xF0#8)
    (hz : writesZ form = false → z = s.flagZ) (hn : writesN form = false → n = s.flagN)
    (hh : writesH form = false → h = s.flagH) (hc : writesC form = false → c = s.flagC) : FlagFrame form s t :=
  .inr ⟨z, n, h, c, hf.trans (packFlags_mask z n h c), hz, hn, hh, hc⟩

theorem FlagFrame.low {form : Form} (h : FlagFrame form s t) (hlow : s.f &&& 0x0F#8 = 0) : t.f &&& 0x0F#8 = 0 := by
  obtain hf | ⟨z, n, h, c, hf, -⟩ := h
  · rw [hf, hlow]
  · rw [hf, ← packFlags_mask]
    exact s.writeF_low _

theorem FlagFrame.flags {form : Form} (h : FlagFrame form s t) :
    (writesZ form = false → t.flagZ = s.flagZ) ∧ (writesN form = false → t.flagN = s.flagN) ∧
      (writesH form = false → t.flagH = s.flagH) ∧ (writesC form = false → t.flagC = s.flagC) := by
  unfold State.flagZ State.flagN State.flagH State.flagC
  obtain hf | ⟨z, n, h, c, hf, hz, hn, hh, hc⟩ := h
  · rw [hf]
    exact ⟨fun _ => rfl, fun _ => rfl, fun _ => rfl, fun _ => rfl⟩
  · obtain ⟨h7, h6, h5, h4⟩ := bitOf_packFlags z n h c
    rw [hf, h7, h6, h5, h4]
    exact ⟨hz, hn, hh, hc⟩

end Sys2Proof.Machine

namespace Sys2Proof.Statement

open Sys2Proof.Machine

/-! ## Registers -/

variable {r : Reg} {t : State}

@[simp] theorem Reg.same_refl (r : Reg) (s : State) : r.same s s := by cases r <;> rfl

@[simp] theorem Reg.same_setFlags {s : State} {z n h c : Bool} : r.same s (t.setFlags z n h c) ↔ r.same s t := by
  cases r <;> rfl

@[simp] theorem Reg.same_withUnits {s : State} {n : Option Nat} : r.same s { t with units := n } ↔ r.same s t := by
  cases r <;> rfl

theorem Reg.same_writeR8 {y : R8} (s : State) (v : Byte) (hr : r ∉ r8Regs y) : r.same s (s.writeR8 y v) := by
  cases y <;> cases r <;> simp [r8Regs] at hr <;> rfl

theorem Reg.same_writeRp {p : Rp} (s : State) (v : Word) (hr : r ∉ rpRegs p) : r.same s (s.writeRp p v) := by
  cases p <;> cases r <;> simp [rpRegs] at hr <;> rfl

end Sys2Proof.Statement
end

section
/-! SUPPORT. The bytes, flags and registers that the effect of each form writes are those the statements list for it. -/

namespace Sys2Proof

open Sys2Proof.Machine Sys2Proof.Statement

/-- The effect of a form stores bytes at the addresses `storedTo` lists, and nowhere else. -/
theorem Form.effect_stored (f : Form) (s : State) : Stored (f.effect s) (storedTo f s) s := by
  cases f with
  | ld y z =>
    by_cases hhalt : y = .atHl ∧ z = .atHl
    · obtain ⟨rfl, rfl⟩ := hhalt
      exact .nil rfl rfl
    · have hiff : (y = .atHl ∧ z ≠ .atHl) ↔ y = .atHl := ⟨And.left, fun hy => ⟨hy, fun hz => hhalt ⟨hy, hz⟩⟩⟩
      simp only [Form.effect, storedTo, if_neg hhalt, hiff]
      exact .writeR8 s y _
  | ldImm y n => exact .writeR8 s y n
  | inc y | dec y => exact (Stored.writeR8 s y _).congr rfl rfl
  | rot op z => exact (Stored.writeR8 s z _).congr rfl rfl
  | res y z | set y z => exact .writeR8 s z _
  | ldAtBcA | ldAtDeA | ldAtHliA | ldAtHldA | ldAtA16A a => exact .cons _ s.a (.nil rfl rfl)
  | ldAtA16Sp a => exact .cons (a + 1) (hi8 s.sp) (.cons a (lo8 s.sp) (.nil rfl rfl))
  | ldhAtA8A o | ldAtCA =>
    rw [storedTo, ← ioAddress_eq_word]
    exact .cons _ s.a (.nil rfl rfl)
  | push p => exact .push s _
  | call a | rst y => exact (Stored.push s s.pc).congr rfl rfl
  | callCc k a =>
    simp only [Form.effect, storedTo]
    split
    · exact (Stored.push s s.pc).congr rfl rfl
    · exact .nil rfl rfl
  | jrCc k a | jpCc k a | retCc k => simp only [Form.effect]; split <;> exact .nil rfl rfl
  | ldRp p v | incRp p | decRp p => exact .nil (s.writeRp_mem p _) (s.writeRp_overlayMapped p _)
  | pop p => exact .nil (s.afterPop.writeRp2_mem p _) (s.afterPop.writeRp2_overlayMapped p _)
  | _ => exact .nil rfl rfl

/-- The effect of a form writes only the flags whose writers list names the form (10_state.md R24). -/
theorem Form.effect_flagFrame (f : Form) (s : State) : FlagFrame f s (f.effect s) := by
  cases f with
  | alu op z | aluImm op n | addSpE8 e | ldHlSpE8 e | daa | rlca | rrca | rla | rra | rot op z =>
    exact .setFlags rfl nofun nofun nofun nofun
  | inc y | dec y | bit y z => exact .setFlags rfl nofun nofun nofun fun _ => rfl
  | addHl p | scf | ccf => exact .setFlags rfl (fun _ => rfl) nofun nofun nofun
  | cpl => exact .setFlags rfl (fun _ => rfl) nofun nofun fun _ => rfl
  | pop p =>
    cases p with
    | af => exact .inr ⟨_, _, _, _, (packFlags_self _ (s.writeF_low (lo8 s.popped))).symm, nofun, nofun, nofun, nofun⟩
    | _ => exact .inl rfl
  | ld y z => simp only [Form.effect]; split <;> [exact .inl rfl; exact .inl (s.writeR8_f y _)]
  | ldImm y n => exact .inl (s.writeR8_f y n)
  | res y z | set y z => exact .inl (s.writeR8_f z _)
  | ldRp p v | incRp p | decRp p => exact .inl (s.writeRp_f p _)
  | jrCc k a | jpCc k a | callCc k a | retCc k => simp only [Form.effect]; split <;> exact .inl rfl
  | _ => exact .inl rfl

/-- The effect of a form writes only the registers its rule names. -/
theorem Form.effect_regs (f : Form) (s : State) {r : Reg} (hr : r ∉ writesRegs f) : r.same s (f.effect s) := by
  cases f with
  | ld y z =>
    by_cases hhalt : y = .atHl ∧ z = .atHl
    · obtain ⟨rfl, rfl⟩ := hhalt
      cases r <;> simp [writesRegs] at hr <;> rfl
    · rw [writesRegs, if_neg hhalt] at hr
      rw [Form.effect, if_neg hhalt]
      exact Reg.same_writeR8 s _ hr
  | ldImm y n => exact Reg.same_writeR8 s n hr
  | inc y | dec y => exact Reg.same_setFlags.2 (Reg.same_writeR8 s _ hr)
  | rot op z => exact Reg.same_setFlags.2 (Reg.same_writeR8 s _ hr)
  | res y z | set y z => exact Reg.same_writeR8 s _ hr
  | ldRp p v | incRp p | decRp p => exact Reg.same_writeRp s _ hr
  | alu op z | aluImm op n => cases op <;> cases r <;> simp [writesRegs] at hr <;> rfl
  | pop p => cases p <;> cases r <;> simp [writesRegs, rp2Regs] at hr <;> rfl
  | jrCc k a | jpCc k a | callCc k a | retCc k =>
    rw [Form.effect]
    split
    · cases r <;> simp [writesRegs] at hr <;> rfl
    · exact r.same_refl s
  | _ => cases r <;> simp [writesRegs] at hr <;> rfl

/-- What executing the instruction of a form answers, the count aside. -/
theorem exec_form_next {f : Form} {s t : State} (h : exec f.instr s = .next t) :
    ∃ n, t = { f.effect s with units := n } := by
  rw [exec_form] at h
  exact ⟨_, (Host.Outcome.next.inj h).symm⟩

/-- What an execution answers, from the form of the instruction itself, the count aside. -/
theorem exec_next_effect {i : Instr} {s t : State} (h : exec i s = .next t) :
    ∃ n, t = { i.form.effect s with units := n } :=
  exec_form_next (by rwa [i.instr_form])

end Sys2Proof
end

section
/-! The obligations about what an execution leaves unchanged. -/

namespace Sys2Proof.Machine

open Sys2Proof.Statement

/-- Settles O18: the registers by `Form.effect_regs`, the rest by `Form.effect_frame`; the count returned is no register. -/
theorem registersNotNamedAreUnchanged : Obligations.RegistersNotNamedAreUnchanged := by
  intro i s t hexec
  obtain ⟨n, rfl⟩ := exec_next_effect hexec
  exact ⟨fun r hr => Reg.same_withUnits.2 (i.form.effect_regs s hr), i.form.effect_frame s⟩

/-- Settles O19: by `Form.effect_flagFrame`. -/
theorem flagsChangeOnlyByTheirWriters : Obligations.FlagsChangeOnlyByTheirWriters := by
  intro i s t hexec
  obtain ⟨n, rfl⟩ := exec_next_effect hexec
  have hframe := i.form.effect_flagFrame s
  obtain ⟨hz, hn, hh, hc⟩ := hframe.flags
  exact ⟨hz, hn, hh, hc, hframe.low⟩

/-- Settles O25: by `Form.effect_stored`, every store is at an address of `storedTo`. -/
theorem bytesNotStoredToAreUnchanged : Obligations.BytesNotStoredToAreUnchanged := by
  intro i s t hexec b hother hport
  obtain ⟨n, rfl⟩ := exec_next_effect hexec
  obtain ⟨-, hparams, -, -⟩ := i.form.effect_frame s
  exact (i.form.effect_stored s).readByte hparams hother hport

/-- Settles O24: a step stores by one form's effect or not at all, and a store at 0xFF50, which has no cell, can only
clear the flag. -/
theorem overlayIsNeverMappedAgain : Obligations.OverlayIsNeverMappedAgain := by
  refine ⟨fun s t hstep hoff => ?never, fun i s t hexec hchanged => ?only, fun s v => ?port⟩
  case never =>
    obtain ⟨-, ⟨-, rfl⟩ | ⟨-, -, rfl⟩ | ⟨-, -, f, u, -, hu, rfl⟩⟩ := step_cases hstep
    · rw [State.driveVideo_overlayMapped, hoff]
    · exact hoff
    · rw [State.driveVideo_overlayMapped]
      exact (f.effect_stored u).overlayMapped_eq_false (by rw [hu]; exact hoff)
  case only =>
    obtain ⟨n, rfl⟩ := exec_next_effect hexec
    have hstored := i.form.effect_stored s
    refine ⟨by_contra fun hport => hchanged (hstored.overlayMapped_eq hport), ?_⟩
    cases hs : s.overlayMapped with
    | false => exact hstored.overlayMapped_eq_false hs
    | true => exact Bool.eq_false_iff.2 fun ht => hchanged (ht.trans hs.symm)
  case port =>
    have hcell : storageCell 0xFF50#16 = none := rfl
    refine ⟨?_, rfl⟩
    rw [State.writeByte, hcell]
    by_cases hv : v = 0#8 <;> simp [hv]

/-- Settles O58: copying maps the pixels, and `Form.effect_frame` keeps the framebuffer they come from. -/
theorem framebufferCopyIsExact : Obligations.FramebufferCopyIsExact := by
  refine ⟨fun s => ⟨by simp [State.copyFramebuffer], fun i hi => by simp [State.copyFramebuffer]⟩, ?pixels⟩
  case pixels =>
    intro i s t hexec j
    obtain ⟨n, rfl⟩ := exec_next_effect hexec
    obtain ⟨-, -, -, hfb⟩ := i.form.effect_frame s
    exact congrArg (fun fb => Config.pixel fb.draw j) hfb

end Sys2Proof.Machine
end

section
/-! The obligations about the video timing state machine (60_exceptions.md section 4). -/

namespace Sys2Proof.Machine

open Sys2Proof.Statement

/-- A pass keeps the place in the frame, which the frame's 70224 clock periods bring back to its start (R280, R281). -/
theorem Video.framePosition_pass {v : Video} (hframe : v.inFrame) (hended : v.mode.duration ≤ v.acc) :
    framePosition v.pass % 70224 = framePosition v % 70224 := by
  obtain ⟨hline, -⟩ := hframe
  cases hm : v.mode <;> rw [hm] at hended <;> simp only [VideoMode.duration] at hended
  · rw [Video.pass_of_oamScan hm]; simp only [framePosition, modeStart, hm]; omega
  · rw [Video.pass_of_drawing hm]; simp only [framePosition, modeStart, hm]; omega
  · rw [Video.pass_of_hblank hm]; simp only [framePosition, hm]; split <;> simp only [modeStart] <;> omega
  · rw [Video.pass_of_vblank hm]; split <;> simp only [framePosition, modeStart, hm] <;> omega

theorem Video.framePosition_loop (k : Nat) {v : Video} (hframe : v.inFrame) :
    framePosition (Video.loop k v) % 70224 = framePosition v % 70224 := by
  induction k generalizing v with
  | zero => rfl
  | succ k ih =>
    rcases Nat.lt_or_ge v.acc v.mode.duration with hrunning | hended
    · rw [Video.loop_of_lt _ _ hrunning]
    · rw [Video.loop_succ_of_le _ _ hended, ih (v.pass_inFrame hframe), Video.framePosition_pass hframe hended]

/-- A legal video state is at a place inside the frame. -/
theorem Video.framePosition_lt {v : Video} (hok : v.ok = true) : framePosition v < 70224 := by
  obtain ⟨⟨hline, hmode⟩, hacc⟩ := v.ok_iff.1 hok
  unfold framePosition
  cases hm : v.mode <;> simp only [hm, reduceCtorEq, false_iff, VideoMode.duration, modeStart] at hmode hacc ⊢ <;> omega

theorem Video.framePosition_advance {v : Video} (t : Nat) (hok : v.ok = true) :
    framePosition (v.advance t) = (framePosition v + t) % 70224 := by
  obtain ⟨hframe, -⟩ := v.ok_iff.1 hok
  calc framePosition (v.advance t)
      = framePosition (v.advance t) % 70224 := (Nat.mod_eq_of_lt (Video.framePosition_lt (v.advance_ok t hok))).symm
    _ = framePosition { v with acc := v.acc + t } % 70224 :=
        Video.framePosition_loop _ (v := { v with acc := v.acc + t }) hframe
    _ = (framePosition v + t) % 70224 := by simp only [framePosition, Nat.add_assoc]

theorem State.videoStep_zero (s : State) : s.videoStep 0 = s := rfl

theorem State.videoStep_video {s : State} {n : Nat} (hn : n ≠ 0) :
    (s.videoStep n).video = s.video.advance (n * s.params.tPerUnit.periods) := by
  rw [State.videoStep, if_neg hn]

/-- Settles O56: passes keep the place in the frame (`Video.framePosition_pass`), and adding the elapsed periods to VACC
moves it by them; the state stays legal by `State.videoStep_ok`. -/
theorem videoStepAdvancesTheFramePosition : Obligations.VideoStepAdvancesTheFramePosition := by
  intro s n hok
  refine ⟨s.videoStep_ok n hok, ?_⟩
  by_cases hn : n = 0
  · subst hn
    rw [State.videoStep_zero, Nat.zero_mul, Nat.add_zero, Nat.mod_eq_of_lt (Video.framePosition_lt hok)]
  · rw [State.videoStep_video hn, Video.framePosition_advance _ hok]

/-- Settles O57: `advance` is its own first pass (`Video.advance_of_le`), written out for each mode. -/
theorem videoLoopUnrolls : Obligations.VideoLoopUnrolls := by
  intro v t
  dsimp only
  refine ⟨v.advance_of_lt t, fun hended => ?pass, v.advance_acc_lt t, fun s n => ⟨s.videoStep_zero, State.videoStep_video⟩⟩
  case pass =>
    rw [Video.advance_of_le v t hended]
    cases hm : v.mode with
    | oamScan | drawing | hblank => rfl
    | vblank => exact apply_ite (Video.advance · 0) _ _ _

end Sys2Proof.Machine
end

section
/-! SUPPORT. What a step answers, from what stands at PC: a Halted step, a decode failure, an instruction. -/

namespace Sys2Proof.Machine

open Sys2Proof.Statement

variable {s : State}

/-- A Halted step hands the count 1 to the video state machine (60_exceptions.md R287). -/
theorem step_of_halted (hfault : s.fault = none) (hhalted : s.execState = .halted) :
    step s = .next (State.videoStep { s with units := some 1 } 1) := by
  simp only [step, hfault, State.beginStep_of_halted hhalted, State.driveVideo]

/-- A step whose byte is absent records the failure and runs no `VideoStep`. -/
theorem step_of_lookup_eq_none (hfault : s.fault = none) (hrunning : s.execState = .running)
    (habsent : lookup s.params s.decodeSpace s.fetchedByte = none) :
    step s = .next (s.afterOpcode.takeDecodeFailure s.decodeSpace s.fetchedByte) := by
  simp only [step, hfault, State.beginStep_of_lookup_eq_none hrunning habsent, State.driveVideo,
    State.takeDecodeFailure_units]

theorem step_of_run {i : Instr} {t u : State} (hfault : s.fault = none) (hbegin : s.beginStep = .run i t)
    (hexec : exec i t = .next u) : step s = .next u.driveVideo := by
  simp only [step, hfault, hbegin, hexec]

/-- The latch tells the space (R113). -/
theorem State.decide_decodeSpace (s : State) : decide (s.decodeSpace = .secondary) = s.cbLatch := by
  unfold State.decodeSpace
  cases s.cbLatch <;> rfl

/-! ## An instruction begun -/

theorem State.beginStep_of_plain {i : Instr} (hrunning : s.execState = .running)
    (hentry : lookup s.params s.decodeSpace s.fetchedByte = some (.plain i)) : s.beginStep = .run i s.afterOpcode := by
  simp only [State.beginStep, hrunning, hentry]

theorem State.beginStep_of_imm8 {mk : Byte → Instr} (hrunning : s.execState = .running)
    (hentry : lookup s.params s.decodeSpace s.fetchedByte = some (.imm8 mk)) :
    s.beginStep = .run (mk s.afterOpcode.fetchedByte) s.afterOpcode.afterFetchByte := by
  simp only [State.beginStep, hrunning, hentry]

theorem State.beginStep_of_imm16 {mk : Word → Instr} (hrunning : s.execState = .running)
    (hentry : lookup s.params s.decodeSpace s.fetchedByte = some (.imm16 mk)) :
    s.beginStep = .run (mk s.afterOpcode.fetchedWord) s.afterOpcode.afterFetchWord := by
  simp only [State.beginStep, hrunning, hentry]

/-- PC two and three bytes on, one fetch after another. -/
theorem pc_add_two (pc : Word) : pc + 1 + 1 = pc + word 2 := BitVec.add_assoc pc 1 1

theorem pc_add_three (pc : Word) : pc + 1 + 1 + 1 = pc + word 3 := by
  exact BitVec.add_assoc (pc + 1) 1 1 |>.trans (BitVec.add_assoc pc 1 2)

/-- Where the bytes at PC are an entry's byte and the immediate bytes it reads an instruction from, that instruction is
begun, with PC past the bytes and the latch clear (40_engine.md R112, R113). -/
theorem State.beginStep_of_reads {e : Entry} {i : Instr} {b : Byte} {imm : List Byte} (hrunning : s.execState = .running)
    (hentry : lookup s.params s.decodeSpace b = some e) (hreads : e.Reads i imm)
    (hbytes : ∀ k (hk : k < (b :: imm).length), s.readByte (s.pc + word k) = (b :: imm)[k]) :
    s.beginStep = .run i { s with pc := s.pc + word (b :: imm).length, cbLatch := false } := by
  have hopcode : b = s.fetchedByte := by
    have h := hbytes 0 (Nat.zero_lt_succ _)
    rw [show s.pc + word 0 = s.pc from BitVec.add_zero s.pc] at h
    exact h.symm
  rw [hopcode] at hentry
  cases hreads with
  | plain => exact State.beginStep_of_plain hrunning hentry
  | imm8 mk n =>
    have hn : s.afterOpcode.fetchedByte = n := hbytes 1 (by simp)
    rw [State.beginStep_of_imm8 hrunning hentry, hn, List.length_cons, List.length_singleton, ← pc_add_two]
    rfl
  | imm16 mk v =>
    have hlow : s.afterOpcode.fetchedByte = lo8 v := hbytes 1 (by simp)
    have hhigh : s.readByte (s.pc + word 2) = hi8 v := hbytes 2 (by simp)
    have hword : s.afterOpcode.fetchedWord = v := by
      rw [← pc_add_two] at hhigh
      rw [State.fetchedWord, hlow, show s.afterOpcode.afterFetchByte.fetchedByte = hi8 v from hhigh, join_hi_lo]
    rw [State.beginStep_of_imm16 hrunning hentry, hword, show [b, lo8 v, hi8 v].length = 3 from rfl, ← pc_add_three]
    rfl

/-- Where the bytes of a mapped instruction stand at PC, it is begun. -/
theorem State.beginStep_of_bytes {i : Instr} (hrunning : s.execState = .running) (hspace : s.decodeSpace = i.space)
    (hmapped : i.wf s.params = true)
    (hbytes : ∀ k : Fin i.byteLength, s.readByte (s.pc + word k.val) = (encode i)[k.val]'k.isLt) :
    s.beginStep = .run i { s with pc := s.pc + word i.byteLength, cbLatch := false } := by
  obtain ⟨e, hentry, hreads⟩ := i.exists_entry
  have hlookup : lookup s.params s.decodeSpace i.opcode = some e := by
    rw [hspace, ← hentry]
    exact if_pos hmapped
  exact State.beginStep_of_reads hrunning hlookup hreads fun k hk => hbytes ⟨k, hk⟩

end Sys2Proof.Machine
end

section
/-! The obligations about one step of the machine (40_engine.md, 60_exceptions.md section 1). -/

namespace Sys2Proof.Machine

open Sys2Proof.Statement

/-- Settles O8: the instruction is begun (`State.beginStep_of_bytes`), and every execution answers a next state. -/
theorem stepRunsDecodedInstruction : Obligations.StepRunsDecodedInstruction := by
  intro s i hfault hrunning hspace hmapped hbytes
  have hbegin := State.beginStep_of_bytes hrunning hspace hmapped hbytes
  obtain ⟨-, -, -, t, hexec, -⟩ :=
    everyInstructionCompletesAtItsCost i { s with pc := s.pc + word i.byteLength, cbLatch := false }
  rw [step_of_run hfault hbegin hexec, hexec]

/-- Settles O11: the record takes the space for the latch the decode consumed (`State.decide_decodeSpace`). -/
theorem decodeFailureIsRecorded : Obligations.DecodeFailureIsRecorded := by
  intro s hfault hrunning habsent
  rw [step_of_lookup_eq_none hfault hrunning habsent, State.takeDecodeFailure, State.decide_decodeSpace]
  rfl

/-- A step answers a fault only where one is recorded: executing never does. -/
theorem step_eq_fault_iff (s : State) (r : Fault) :
    step s = .fault r ↔ ∃ info, s.fault = some info ∧ r = .decodeFailure info := by
  unfold step
  cases hfault : s.fault with
  | some info => simp [eq_comm]
  | none =>
    cases hbegin : s.beginStep with
    | idle t | failed t => simp
    | run i t =>
      obtain ⟨f, rfl⟩ := i.exists_form
      simp [exec_form, State.completes]

/-- Settles O12: of the three ways a step answers a next state (`step_cases`), only the decode failure writes FAULT. -/
theorem faultIsTerminalAndOnlyFromDecode : Obligations.FaultIsTerminalAndOnlyFromDecode := by
  refine ⟨step_eq_fault_iff, fun r => rfl, fun s t hstep => ?_⟩
  obtain ⟨hfault, ⟨hhalted, rfl⟩ | ⟨hrunning, habsent, rfl⟩ | ⟨hrunning, hpresent, f, u, -, hu, rfl⟩⟩ := step_cases hstep
  · simp [hfault, hhalted]
  · exact iff_of_true (Option.some_ne_none _) ⟨hrunning, habsent⟩
  · have hnone : (f.effect u).fault = none := by
      obtain ⟨heffect, -⟩ := f.effect_frame u
      rw [heffect, hu, hfault]
    exact iff_of_false (by simp [hnone]) fun h => hpresent h.2

/-- Running one step more than `k`, where the first step answers a next state. -/
theorem core_run_succ {s t : State} (k : Nat) (hstep : step s = .next t) : core.run (k + 1) s = core.run k t := by
  simp only [Host.Core.run, show core.step s = .next t from hstep]

/-- Settles O10: by induction on the number of steps, each of which leaves a Halted machine. -/
theorem haltedMachineStaysIdle : Obligations.HaltedMachineStaysIdle := by
  intro k s hfault hhalted
  refine ⟨step_of_halted hfault hhalted, ?_⟩
  induction k generalizing s with
  | zero => exact ⟨s, rfl, rfl, by simp [State.status, hfault, hhalted]⟩
  | succ k ih =>
    obtain ⟨t, hrun, heq, hidle⟩ := ih (State.videoStep { s with units := some 1 } 1) hfault hhalted
    refine ⟨t, ?_, heq, hidle⟩
    rw [← hrun]
    exact core_run_succ k (step_of_halted hfault hhalted)

/-! ## The prefix and the instruction after it -/

/-- A driven video state machine changes nothing that a read depends on. -/
theorem State.driveVideo_readByte (s : State) (a : Word) : s.driveVideo.readByte a = s.readByte a :=
  State.readByte_congr s.driveVideo_overlayMapped s.driveVideo_mem (congrArg Params.bootRom s.driveVideo_params) a

/-- The prefix's own step sets the latch and moves PC past the prefix. -/
theorem exists_step_prefixCb (hfault : s.fault = none) (hrunning : s.execState = .running) (hlatch : s.cbLatch = false)
    (hprefix : s.fetchedByte = 0xCB#8) (hmapped : s.params.mapped .primary 0xCB#8 = true) :
    ∃ t, step s = .next t ∧ t.fault = none ∧ t.execState = .running ∧ t.cbLatch = true ∧ t.pc = s.pc + 1 ∧
      t.params = s.params ∧ ∀ a, t.readByte a = s.readByte a := by
  have hbegin : s.beginStep = .run .prefixCb s.afterOpcode := by
    refine State.beginStep_of_plain hrunning ?_
    rw [State.decodeSpace, hlatch, hprefix]
    exact if_pos hmapped
  refine ⟨_, step_of_run hfault hbegin (exec_form .prefixCb s.afterOpcode), ?_⟩
  rw [State.driveVideo_fault, State.driveVideo_execState, State.driveVideo_cbLatch, State.driveVideo_pc,
    State.driveVideo_params]
  exact ⟨hfault, hrunning, rfl, rfl, rfl, State.driveVideo_readByte _⟩

/-- No secondary-space instruction names PC or the latch. -/
theorem secondaryInstr_writesRegs (b : Byte) :
    Reg.pc ∉ writesRegs (secondaryInstr b).form ∧ Reg.cbLatch ∉ writesRegs (secondaryInstr b).form := by
  revert b; decide +kernel

/-- Settles O47: the first step leaves the latch set (`exists_step_prefixCb`), so the second begins the secondary-space
instruction of the next byte, which leaves PC and the latch as the fetch left them. -/
theorem prefixedInstructionTakesTwoSteps : Obligations.PrefixedInstructionTakesTwoSteps := by
  intro s b hfault hrunning hlatch hprefix hbyte hmapped hmapped'
  obtain ⟨t, hstep, htfault, htrunning, htlatch, hpc, hparams, hread⟩ :=
    exists_step_prefixCb hfault hrunning hlatch hprefix hmapped
  have hbegin : t.beginStep = .run (secondaryInstr b) t.afterOpcode := by
    refine State.beginStep_of_plain htrunning ?_
    rw [State.decodeSpace, htlatch, State.fetchedByte, hread, hpc, hbyte, hparams]
    exact if_pos hmapped'
  have hopcode : t.afterOpcode = { t with pc := s.pc + 2, cbLatch := false } := by
    rw [State.afterOpcode, State.afterFetchByte, hpc, pc_add_two]
    rfl
  rw [hopcode] at hbegin
  obtain ⟨-, -, -, u, hexec, -⟩ :=
    everyInstructionCompletesAtItsCost (secondaryInstr b) { t with pc := s.pc + 2, cbLatch := false }
  obtain ⟨hregs, -⟩ := registersNotNamedAreUnchanged _ _ _ hexec
  obtain ⟨hpcKept, hlatchKept⟩ := secondaryInstr_writesRegs b
  exact ⟨t, u, hstep, htlatch, hpc, hexec, step_of_run htfault hbegin hexec,
    u.driveVideo_pc.trans (hregs .pc hpcKept), u.driveVideo_cbLatch.trans (hregs .cbLatch hlatchKept)⟩

end Sys2Proof.Machine
end

section
/-! The obligations about power-on and the invariant (10_state.md sections 1, 3 and 6). -/

namespace Sys2Proof.Machine

open Sys2Proof.Statement

/-- Settles O13: every field is the one `State.powerOn` sets; PC is 0 in the mapped overlay, so the fetch reads the boot
image. -/
theorem powerOnState : Obligations.PowerOnState := by
  intro p ram
  have hbit (i : Nat) : bitOf 0x00#8 i = false := BitVec.getLsbD_zero
  exact ⟨rfl, rfl, rfl, rfl, rfl, rfl, rfl, rfl, rfl, rfl, hbit 7, hbit 6, hbit 5, hbit 4, rfl, rfl, rfl, rfl, rfl, rfl,
    rfl, rfl, rfl, rfl, rfl, rfl, rfl, rfl⟩

/-- Settles O14: F is 0 and the video state is the start of the frame; the storage is the one given. -/
theorem invariantHoldsAtPowerOn : Obligations.InvariantHoldsAtPowerOn := fun _ _ hwf hcells =>
  ⟨BitVec.zero_and, hwf, hcells, rfl⟩

variable {s t : State}

/-- The invariant depends on F, the storage and the video state only. -/
theorem State.Inv.congr (h : s.Inv) (hf : t.f = s.f) (hmem : t.mem = s.mem) (hvideo : t.video = s.video) : t.Inv := by
  obtain ⟨hflags, hwf, hcells, hok⟩ := h
  exact ⟨by rw [hf, hflags], by rw [hmem]; exact hwf, by rw [hmem]; exact hcells, by rw [hvideo, hok]⟩

theorem State.Inv.driveVideo (h : s.Inv) : s.driveVideo.Inv := by
  obtain ⟨hflags, hwf, hcells, hok⟩ := h
  exact ⟨by rw [s.driveVideo_f, hflags], by rw [s.driveVideo_mem]; exact hwf, by rw [s.driveVideo_mem]; exact hcells,
    s.driveVideo_ok hok⟩

/-- The effect of a form masks F where it writes it, stores through cells and leaves the video state alone. -/
theorem State.Inv.effect (h : s.Inv) (f : Form) : (f.effect s).Inv := by
  obtain ⟨hflags, hwf, hcells, hok⟩ := h
  have hstored := f.effect_stored s
  obtain ⟨-, -, hvideo, -⟩ := f.effect_frame s
  exact ⟨(f.effect_flagFrame s).low hflags, hstored.wf hwf, hstored.cells hcells, by rw [hvideo, hok]⟩

/-- Settles O15: each of the three ways a step answers a next state (`step_cases`) keeps the invariant. -/
theorem everyStepKeepsTheInvariant : Obligations.EveryStepKeepsTheInvariant := by
  intro s t hinv hstep
  obtain ⟨-, ⟨-, rfl⟩ | ⟨-, -, rfl⟩ | ⟨-, -, f, u, -, hu, rfl⟩⟩ := step_cases hstep
  · exact State.Inv.driveVideo (hinv.congr rfl rfl rfl)
  · exact hinv.congr rfl rfl rfl
  · have hbegun : u.Inv := by rw [hu]; exact hinv.congr rfl rfl rfl
    exact State.Inv.driveVideo ((hbegun.effect f).congr rfl rfl rfl)

end Sys2Proof.Machine
end

section
/-! The obligation about stack round trips (46_stack.md). -/

namespace Sys2Proof.Machine

open Sys2Proof.Statement

theorem sub_two_add_two (w : Word) : w - 2 + 2 = w := BitVec.sub_add_cancel w 2

/-- What was pushed where the stack bytes are in RAM is what is popped. -/
theorem State.popped_push {s : State} (v : Word) (hwf : Memory.wf s.mem) (hhigh : backed (s.sp - 1))
    (hlow : backed (s.sp - 2)) : (s.push v).popped = v := by
  rw [← sub_two_add_one] at hhigh
  exact State.readWord_writeWord (s := { s with sp := s.sp - 2 }) v hwf hlow hhigh

/-- The count returned is no part of a pair, and popping does not depend on it. -/
theorem State.readRp2_withUnits (s : State) (n : Option Nat) (p : Rp2) :
    State.readRp2 { s with units := n } p = s.readRp2 p := by
  cases p <;> rfl

theorem State.popRp2_withUnits (s : State) (n : Option Nat) (p : Rp2) :
    State.popRp2 { s with units := n } p = { s.popRp2 p with units := n } := by
  cases p <;> rfl

/-- A pair reads as written, but for the low nibble of F. -/
theorem State.readRp2_writeRp2_of_low (s t : State) (p : Rp2) (hlow : s.f &&& 0x0F#8 = 0) :
    (t.writeRp2 p (s.readRp2 p)).readRp2 p = s.readRp2 p := by
  cases p with
  | bc => exact t.setBc_bc _
  | de => exact t.setDe_de _
  | hl => exact t.setHl_hl _
  | af =>
    have hmask : s.f &&& 0xF0#8 = s.f := by
      revert hlow; generalize s.f = f; revert f; decide +kernel
    rw [State.writeRp2, State.readRp2, State.readRp2, State.setAf_af, State.af, join_and_0xFFF0, hmask]

/-- A pair pushed and popped is the pair, where the stack bytes are in RAM and F's low nibble is 0. -/
theorem State.popRp2_push {s : State} (p : Rp2) (hwf : Memory.wf s.mem) (hhigh : backed (s.sp - 1))
    (hlow : backed (s.sp - 2)) (hnibble : s.f &&& 0x0F#8 = 0) :
    ((s.push (s.readRp2 p)).popRp2 p).readRp2 p = s.readRp2 p := by
  rw [State.popRp2, State.popped_push _ hwf hhigh hlow, State.readRp2_writeRp2_of_low s _ p hnibble]

/-- Settles O53: the word pushed is the word popped (`State.popped_push`, `State.popRp2_push`), and SP goes two down and
two up. -/
theorem stackRoundTrips : Obligations.StackRoundTrips := by
  intro s t u p a hwf hhigh hlow
  refine ⟨fun hpush hpop => ?pair, fun hcall => ?call⟩
  case pair =>
    obtain ⟨n, rfl⟩ := exec_form_next (f := .push p) hpush
    obtain ⟨m, rfl⟩ := exec_form_next (f := .pop p) hpop
    refine ⟨?sp, fun hnibble => ?value⟩
    case sp => exact (State.writeRp2_sp _ p _).trans (sub_two_add_two s.sp)
    case value =>
      rw [State.readRp2_withUnits]
      show (State.popRp2 { s.push (s.readRp2 p) with units := n } p).readRp2 p = s.readRp2 p
      rw [State.popRp2_withUnits, State.readRp2_withUnits, State.popRp2_push p hwf hhigh hlow hnibble]
  case call =>
    obtain ⟨n, rfl⟩ := exec_form_next (f := .call a) hcall
    refine ⟨rfl, fun hret => ?_⟩
    obtain ⟨m, rfl⟩ := exec_form_next (f := .ret) hret
    exact ⟨State.popped_push s.pc hwf hhigh hlow, sub_two_add_two s.sp⟩

end Sys2Proof.Machine
end

section
/-! The obligations about the accumulator rotates and control (44_rotate.md, 49_control.md). -/

namespace Sys2Proof.Machine

open Sys2Proof.Statement

/-- How an accumulator rotate sets Z, over the parameter `ROT_A_Z` (R194). -/
theorem rotAZero_eq (mode : RotAZ) (r : Byte) :
    rotAZero mode r = (decide (mode = .fromResult) && decide (r.toNat = 0)) := by
  cases mode with
  | fromResult => exact beq_zero_eq r
  | cleared => rfl

theorem State.rotateA_eq (s : State) (op : RotOp) :
    s.rotateA op =
      let r := rotSpec op s.a.toNat s.flagC.toNat
      { s with
        a := byte r.1
        f := flagByte (decide (s.params.rotAZ = .fromResult) && decide (r.1 = 0)) false false r.2 } := by
  dsimp only
  rw [State.rotateA, State.setFlags_eq, rotate_eq_rotSpec, rotAZero_eq, byte_toNat_of_lt (rotSpec_toNat_lt ..)]

/-- Settles O43: the four forms are `State.rotateA`, whose result, Z and C are given as numbers by `State.rotateA_eq`. -/
theorem accumulatorRotates : Obligations.AccumulatorRotates := by
  intro s
  dsimp only
  rw [← State.rotateA_eq s .rlc, ← State.rotateA_eq s .rrc, ← State.rotateA_eq s .rl, ← State.rotateA_eq s .rr]
  exact ⟨rfl, exec_form_answers .rlca s, rfl, exec_form_answers .rrca s,
    rfl, exec_form_answers .rla s, rfl, exec_form_answers .rra s⟩

/-- Settles O55: HALT and STOP halt, DI and EI write IME, NOP changes nothing. -/
theorem controlInstructions : Obligations.ControlInstructions := fun s n =>
  ⟨rfl, exec_form_answers .nop s, rfl, exec_form_answers .halt s, rfl, exec_form_answers (.stop n) s,
    rfl, exec_form_answers .di s, rfl, exec_form_answers .ei s⟩

end Sys2Proof.Machine
end

section
/-! The obligation about decimal arithmetic (43_alu.md R170, R172, R180). -/

namespace Sys2Proof.Machine

open Sys2Proof.Statement

/-- A number below 100 by its digits. -/
theorem exists_digits {n : Nat} (hn : n < 100) : ∃ d u, d < 10 ∧ u < 10 ∧ n = 10 * d + u :=
  ⟨n / 10, n % 10, by omega, by omega, by omega⟩

/-- A BCD code holds the tens in its high nibble and the units in its low one. -/
theorem bcd_digits_toNat {d u : Nat} (hd : d < 10) (hu : u < 10) : (bcd (10 * d + u)).toNat = 16 * d + u := by
  rw [bcd, byte_toNat_of_lt (by omega)]
  omega

section
variable {p q r t : Nat} (hp : p < 10) (hq : q < 10) (hr : r < 10) (ht : t < 10)
include hp hq hr ht

/-- DAA after the sum of two codes: 6 is added where the units carry, 0x60 where the tens do (R180). -/
theorem daaSpec_add :
    daaSpec ((16 * p + q + (16 * r + t)) % 256) false (decide ((16 * p + q) % 16 + (16 * r + t) % 16 > 15))
        (decide (16 * p + q + (16 * r + t) > 255)) =
      ((bcd ((10 * p + q + (10 * r + t)) % 100)).toNat, decide (100 ≤ 10 * p + q + (10 * r + t))) := by
  simp only [daaSpec, Bool.false_eq_true, if_false, decide_eq_true_eq, Prod.mk.injEq]
  constructor
  · rcases Nat.lt_or_ge (q + t) 10 with hunits | hunits
    · rcases Nat.lt_or_ge (p + r) 10 with htens | htens
      · rw [show (10 * p + q + (10 * r + t)) % 100 = 10 * (p + r) + (q + t) by omega,
          bcd_digits_toNat (by omega) (by omega), if_neg (by omega), if_neg (by omega)]
        omega
      · rw [show (10 * p + q + (10 * r + t)) % 100 = 10 * (p + r - 10) + (q + t) by omega,
          bcd_digits_toNat (by omega) (by omega), if_pos (by omega), if_neg (by omega)]
        omega
    · rcases Nat.lt_or_ge (p + r + 1) 10 with htens | htens
      · rw [show (10 * p + q + (10 * r + t)) % 100 = 10 * (p + r + 1) + (q + t - 10) by omega,
          bcd_digits_toNat (by omega) (by omega), if_neg (by omega), if_pos (by omega)]
        omega
      · rw [show (10 * p + q + (10 * r + t)) % 100 = 10 * (p + r - 9) + (q + t - 10) by omega,
          bcd_digits_toNat (by omega) (by omega), if_pos (by omega), if_pos (by omega)]
        omega
  · rw [Bool.eq_iff_iff, Bool.or_eq_true]
    simp only [decide_eq_true_eq]
    omega

/-- DAA after the difference of two codes: 6 is taken off where the units borrow, 0x60 where the tens do (R180). -/
theorem daaSpec_sub :
    daaSpec ((16 * p + q + 256 - (16 * r + t)) % 256) true (decide ((16 * p + q) % 16 < (16 * r + t) % 16))
        (decide (16 * p + q < 16 * r + t)) =
      ((bcd ((10 * p + q + 100 - (10 * r + t)) % 100)).toNat, decide (10 * p + q < 10 * r + t)) := by
  simp only [daaSpec, if_true, decide_eq_true_eq, Prod.mk.injEq, decide_eq_decide]
  constructor
  · rcases Nat.lt_or_ge q t with hunits | hunits
    · rcases Nat.lt_or_ge p (r + 1) with htens | htens
      · rw [show (10 * p + q + 100 - (10 * r + t)) % 100 = 10 * (p + 9 - r) + (q + 10 - t) by omega,
          bcd_digits_toNat (by omega) (by omega), if_pos (by omega), if_pos (by omega)]
        omega
      · rw [show (10 * p + q + 100 - (10 * r + t)) % 100 = 10 * (p - r - 1) + (q + 10 - t) by omega,
          bcd_digits_toNat (by omega) (by omega), if_neg (by omega), if_pos (by omega)]
        omega
    · rcases Nat.lt_or_ge p r with htens | htens
      · rw [show (10 * p + q + 100 - (10 * r + t)) % 100 = 10 * (p + 10 - r) + (q - t) by omega,
          bcd_digits_toNat (by omega) (by omega), if_pos (by omega), if_neg (by omega)]
        omega
      · rw [show (10 * p + q + 100 - (10 * r + t)) % 100 = 10 * (p - r) + (q - t) by omega,
          bcd_digits_toNat (by omega) (by omega), if_neg (by omega), if_neg (by omega)]
        omega
  · omega

end

theorem State.daa_a (s : State) : s.daa.a = byte (daaSpec s.a.toNat s.flagN s.flagH s.flagC).1 := by
  rw [State.daa_eq]

theorem State.daa_flagC (s : State) : s.daa.flagC = (daaSpec s.a.toNat s.flagN s.flagH s.flagC).2 := by
  have hflag : s.daa.flagC = (decimalAdjust s.a s.flagN s.flagH s.flagC).2 := State.setFlags_flagC s _ _ _ _
  rw [hflag, decimalAdjust_eq_daaSpec]

/-- What DAA sees after an ALU operation on A and an immediate byte is that operation's value and flags. -/
theorem exec_aluImm_daa {s t u : State} {op : AluOp} {v : Byte} (halu : exec (Instr.ofAluImm op v) s = .next t)
    (hdaa : exec .daa t = .next u) :
    let r := aluSpec op s.a.toNat v.toNat s.flagC.toNat
    u.a = byte (daaSpec r.1 r.2.2.1 r.2.2.2.1 r.2.2.2.2).1 ∧ u.flagC = (daaSpec r.1 r.2.2.1 r.2.2.2.1 r.2.2.2.2).2 := by
  obtain ⟨n, rfl⟩ := exec_form_next (f := .aluImm op v) halu
  obtain ⟨m, rfl⟩ := exec_form_next (f := .daa) hdaa
  have hvalue : (s.aluWith op v).a.toNat = _ := alu_value_toNat_eq_aluSpec op s.a v s.flagC
  have hn : (s.aluWith op v).flagN = _ := (State.setFlags_flagN s _ _ _ _).trans (alu_n_eq_aluSpec op s.a v s.flagC)
  have hh : (s.aluWith op v).flagH = _ := (State.setFlags_flagH s _ _ _ _).trans (alu_h_eq_aluSpec op s.a v s.flagC)
  have hc : (s.aluWith op v).flagC = _ := (State.setFlags_flagC s _ _ _ _).trans (alu_c_eq_aluSpec op s.a v s.flagC)
  dsimp only
  rw [← hvalue, ← hn, ← hh, ← hc]
  exact ⟨State.daa_a _, State.daa_flagC _⟩

/-- Settles O42: DAA works on the value and flags of the operation (`exec_aluImm_daa`), digit by digit
(`daaSpec_add`, `daaSpec_sub`). -/
theorem daaCorrectsBcdArithmetic : Obligations.DaaCorrectsBcdArithmetic := by
  intro s t u x y hx hy ha
  obtain ⟨p, q, hp, hq, rfl⟩ := exists_digits hx
  obtain ⟨r, w, hr, hw, rfl⟩ := exists_digits hy
  refine ⟨fun hadd hdaa => ?add, fun hsub hdaa => ?sub⟩
  case add =>
    have hresult := exec_aluImm_daa (op := .add) hadd hdaa
    rw [ha] at hresult
    simp only [aluSpec, bcd_digits_toNat hp hq, bcd_digits_toNat hr hw, daaSpec_add hp hq hr hw, byte_toNat_self] at hresult
    exact hresult
  case sub =>
    have hresult := exec_aluImm_daa (op := .sub) hsub hdaa
    rw [ha] at hresult
    simp only [aluSpec, bcd_digits_toNat hp hq, bcd_digits_toNat hr hw, daaSpec_sub hp hq hr hw, byte_toNat_self] at hresult
    exact hresult

end Sys2Proof.Machine
end

section
/-! SUPPORT. A step seen through a view of the state: what the view hides does not change what it shows. -/

namespace Sys2Proof.Machine

open Sys2Proof.Statement

/-- An outcome with its state seen through a view. -/
def seenThrough (view : State → State) : Host.Outcome State Fault Refusal → Host.Outcome State Fault Refusal
  | .next t => .next (view t)
  | .fault r => .fault r
  | .refused r => .refused r

theorem sameThrough_iff (view : State → State) (o p : Host.Outcome State Fault Refusal) :
    sameThrough view o p ↔ seenThrough view o = seenThrough view p := by
  cases o <;> cases p <;> simp [sameThrough, seenThrough]

/-- What a step has come to, with its state seen through a view. -/
def Begun.seenThrough (view : State → State) : Begun → Begun
  | .idle t => .idle (view t)
  | .failed t => .failed (view t)
  | .run i t => .run i (view t)

/-- A view hides nothing that a step reads: it shows FAULT, and the start of a step, an execution and the driven video
state machine show the same from states that it shows alike. -/
structure HidesOnlyUnread (view : State → State) : Prop where
  fault (s : State) : (view s).fault = s.fault
  beginStep (s : State) : (view s).beginStep.seenThrough view = s.beginStep.seenThrough view
  exec {s t : State} (i : Instr) (h : view s = view t) :
    ∃ u v, exec i s = .next u ∧ exec i t = .next v ∧ view u = view v
  driveVideo {s t : State} (h : view s = view t) : view s.driveVideo = view t.driveVideo

variable {view : State → State}

/-- What a step answers is the same, seen through the view, whether or not the view hid anything before. -/
theorem HidesOnlyUnread.step_view (hview : HidesOnlyUnread view) (s : State) :
    seenThrough view (step (view s)) = seenThrough view (step s) := by
  have hbegin := hview.beginStep s
  unfold step
  rw [hview.fault]
  cases s.fault with
  | some info => rfl
  | none =>
    cases hv : (view s).beginStep <;> cases hs : s.beginStep <;> rw [hv, hs] at hbegin <;>
      simp only [Begun.seenThrough, reduceCtorEq, Begun.idle.injEq, Begun.failed.injEq, Begun.run.injEq] at hbegin
    case idle.idle | failed.failed => exact congrArg Host.Outcome.next (hview.driveVideo hbegin)
    case run.run =>
      obtain ⟨rfl, hsame⟩ := hbegin
      obtain ⟨u, w, hu, hw, huw⟩ := hview.exec _ hsame
      dsimp only
      rw [hu, hw]
      exact congrArg Host.Outcome.next (hview.driveVideo huw)

/-- States that a view shows alike step alike, seen through it. -/
theorem HidesOnlyUnread.sameThrough_step (hview : HidesOnlyUnread view) {s u : State} (h : view s = view u) :
    sameThrough view (step s) (step u) := by
  rw [sameThrough_iff, ← hview.step_view s, h, hview.step_view u]

/-! ## What the two views hide is not read -/

theorem State.readR8_cpuView (s : State) (z : R8) : (cpuView s).readR8 z = s.readR8 z := by cases z <;> rfl
theorem State.readR8_withoutIme (s : State) (z : R8) : (withoutIme s).readR8 z = s.readR8 z := by cases z <;> rfl
theorem State.cond_cpuView (s : State) (k : Cc) : (cpuView s).cond k = s.cond k := by cases k <;> rfl
theorem State.cond_withoutIme (s : State) (k : Cc) : (withoutIme s).cond k = s.cond k := by cases k <;> rfl

end Sys2Proof.Machine

namespace Sys2Proof

open Sys2Proof.Machine Sys2Proof.Statement

theorem Form.effect_views (f : Form) (s : State) :
    cpuView (f.effect (cpuView s)) = cpuView (f.effect s) ∧
      withoutIme (f.effect (withoutIme s)) = withoutIme (f.effect s) := by
  cases f with
  | ld y z =>
    simp only [Form.effect, State.move8, State.readR8_cpuView, State.readR8_withoutIme]
    split
    · exact ⟨rfl, rfl⟩
    · cases y <;> exact ⟨rfl, rfl⟩
  | ldImm y n | inc y | dec y => cases y <;> exact ⟨rfl, rfl⟩
  | alu op z | bit y z => cases z <;> exact ⟨rfl, rfl⟩
  | rot op z | res y z | set y z => cases z <;> exact ⟨rfl, rfl⟩
  | ldRp p v | incRp p | decRp p | addHl p => cases p <;> exact ⟨rfl, rfl⟩
  | push p | pop p => cases p <;> exact ⟨rfl, rfl⟩
  | jrCc k a | jpCc k a | callCc k a | retCc k =>
    simp only [Form.effect, State.cond_cpuView, State.cond_withoutIme]
    split <;> exact ⟨rfl, rfl⟩
  | _ => exact ⟨rfl, rfl⟩

/-- What a form costs does not depend on IME. -/
theorem Form.cost_withoutIme (f : Form) (s : State) : f.cost (withoutIme s) = f.cost s := by
  cases f with
  | jrCc k a | jpCc k a | callCc k a | retCc k => simp only [Form.cost, State.cond_withoutIme]
  | _ => rfl

end Sys2Proof

namespace Sys2Proof.Machine

open Sys2Proof.Statement

/-- A step begins alike, seen through either view. -/
theorem State.beginStep_views (s : State) :
    (cpuView s).beginStep.seenThrough cpuView = s.beginStep.seenThrough cpuView ∧
      (withoutIme s).beginStep.seenThrough withoutIme = s.beginStep.seenThrough withoutIme := by
  cases hexec : s.execState with
  | halted =>
    rw [State.beginStep_of_halted hexec, State.beginStep_of_halted (s := cpuView s) hexec,
      State.beginStep_of_halted (s := withoutIme s) hexec]
    exact ⟨rfl, rfl⟩
  | running =>
    cases hentry : lookup s.params s.decodeSpace s.fetchedByte with
    | none =>
      rw [State.beginStep_of_lookup_eq_none hexec hentry, State.beginStep_of_lookup_eq_none (s := cpuView s) hexec hentry,
        State.beginStep_of_lookup_eq_none (s := withoutIme s) hexec hentry]
      exact ⟨rfl, rfl⟩
    | some e =>
      cases e with
      | plain i =>
        rw [State.beginStep_of_plain hexec hentry, State.beginStep_of_plain (s := cpuView s) hexec hentry,
          State.beginStep_of_plain (s := withoutIme s) hexec hentry]
        exact ⟨rfl, rfl⟩
      | imm8 mk =>
        rw [State.beginStep_of_imm8 hexec hentry, State.beginStep_of_imm8 (s := cpuView s) hexec hentry,
          State.beginStep_of_imm8 (s := withoutIme s) hexec hentry]
        exact ⟨rfl, rfl⟩
      | imm16 mk =>
        rw [State.beginStep_of_imm16 hexec hentry, State.beginStep_of_imm16 (s := cpuView s) hexec hentry,
          State.beginStep_of_imm16 (s := withoutIme s) hexec hentry]
        exact ⟨rfl, rfl⟩

theorem State.driveVideo_of_none {s : State} (h : s.units = none) : s.driveVideo = s := by
  rw [State.driveVideo, h]

theorem State.driveVideo_of_some {s : State} {n : Nat} (h : s.units = some n) : s.driveVideo = s.videoStep n := by
  rw [State.driveVideo, h]

/-- The video state machine writes only what `cpuView` hides. -/
theorem cpuView_videoStep (s : State) (n : Nat) : cpuView (s.videoStep n) = cpuView s := by
  unfold State.videoStep
  split <;> rfl

theorem cpuView_driveVideo (s : State) : cpuView s.driveVideo = cpuView s := by
  cases h : s.units with
  | none => rw [State.driveVideo_of_none h]
  | some n => rw [State.driveVideo_of_some h, cpuView_videoStep]

/-- The video state machine neither reads nor writes IME. -/
theorem withoutIme_videoStep (s : State) (n : Nat) : withoutIme (s.videoStep n) = (withoutIme s).videoStep n := by
  unfold State.videoStep
  exact apply_ite withoutIme _ _ _

theorem withoutIme_driveVideo (s : State) : withoutIme s.driveVideo = (withoutIme s).driveVideo := by
  cases h : s.units with
  | none => rw [State.driveVideo_of_none h, State.driveVideo_of_none (s := withoutIme s) h]
  | some n => rw [State.driveVideo_of_some h, State.driveVideo_of_some (s := withoutIme s) h, withoutIme_videoStep]

theorem hidesOnlyUnread_cpuView : HidesOnlyUnread cpuView where
  fault _ := rfl
  beginStep s := s.beginStep_views.1
  exec {s t} i h := by
    obtain ⟨f, rfl⟩ := i.exists_form
    obtain ⟨hs, -⟩ := Form.effect_views f s
    obtain ⟨ht, -⟩ := Form.effect_views f t
    exact ⟨_, _, exec_form f s, exec_form f t, hs.symm.trans ((congrArg (fun v => cpuView (f.effect v)) h).trans ht)⟩
  driveVideo h := by rw [cpuView_driveVideo, cpuView_driveVideo, h]

theorem hidesOnlyUnread_withoutIme : HidesOnlyUnread withoutIme where
  fault _ := rfl
  beginStep s := s.beginStep_views.2
  exec {s t} i h := by
    obtain ⟨f, rfl⟩ := i.exists_form
    obtain ⟨-, hs⟩ := Form.effect_views f s
    obtain ⟨-, ht⟩ := Form.effect_views f t
    have heffect : withoutIme (f.effect s) = withoutIme (f.effect t) := by rw [← hs, ← ht, h]
    have hcost : f.cost s = f.cost t := by rw [← f.cost_withoutIme, h, f.cost_withoutIme]
    exact ⟨_, _, exec_form f s, exec_form f t,
      congrArg₂ (fun (x : State) c => { x with units := some (c / x.params.tPerUnit.periods) }) heffect hcost⟩
  driveVideo h := by rw [withoutIme_driveVideo, withoutIme_driveVideo, h]

end Sys2Proof.Machine
end

section
/-! The obligations about what the CPU cannot see (60_exceptions.md section 4, 10_state.md section 2). -/

namespace Sys2Proof.Machine

/-- Settles O59: no start of a step and no form's effect reads what `cpuView` hides, and only the video state machine
writes it. -/
theorem cpuCannotSeeVideoOrTiming : Obligations.CpuCannotSeeVideoOrTiming :=
  fun _ _ h => hidesOnlyUnread_cpuView.sameThrough_step h

/-- Settles O60: no start of a step, no form's effect or cost, and no step of the video state machine reads IME. -/
theorem imeIsNeverRead : Obligations.ImeIsNeverRead :=
  fun _ _ h => hidesOnlyUnread_withoutIme.sameThrough_step h

end Sys2Proof.Machine
end
